-- ==== Sys2Proof/Word.lean ====
section
/-! DEFINITION. The plain number types of the Melibar D4256: what the manual sends as bits is a bit vector, what it counts is a
`Fin`. -/

namespace Sys2Proof

/-- A byte of a frame, an answer, a record or a value. -/
abbrev Byte := BitVec 8

/-- A point's key, 0 to 16,777,215 (R1). -/
abbrev Key := BitVec 24

/-- A point's version, 0 to 65,535 (R1, R31). -/
abbrev Version := BitVec 16

/-- A slot of the point table, 0 to 255 (R1). -/
abbrev Slot := Fin 256

/-- A port, P0 to P3. -/
abbrev Port := Fin 4

/-- A watch filter of a port, 0 to 7 (R67). -/
abbrev FilterNo := Fin 8

/-- A readers set: bit `p` is port `p` (R177). -/
abbrev PortSet := BitVec 4

/-- A filter's kinds set: bit 0 CHANGED, bit 1 STALE, bit 2 RETIRED, bit 3 OWNER (R177). -/
abbrev KindSet := BitVec 4

end Sys2Proof
end

