-- ==== Sys2Proof/Syntax.lean ====
section
/-! DEFINITION. The commands of the block: one constructor of `Instr` for each row of spec/opcode_table.json. The fields of the 22
request frames (R178) are `Request`; their codes are `Command`. -/

namespace Sys2Proof

/-- The 22 commands a request frame may name (R178). -/
inductive Command where
  | nop | status | attend | resend
  | create | find | read | scan
  | openUpdate | write | commit | discard | put | refresh | retire
  | watch | unwatch | take
  | restore | flush | reassign | timing
  deriving DecidableEq, Repr

/-- The statuses an answer may carry (R161, R180). -/
inductive Status where
  | ok | checkFail | badFrame | held | restricted | notSupervisor | noHeld
  | noSlot | noKey | keyInUse | tableFull | storeFull | range | notOwner | guarded
  | noValue | retiring | busy | notOpen | tooMany | orphaned | badTarget
  deriving DecidableEq, Repr

/-- The two ways FIND names a point (R56). -/
inductive FindBy where
  | key (key : Key)
  | slot (slot : Slot)
  deriving DecidableEq, Repr

/-- What SWM selects: the action taken on a droop (R162). -/
inductive DroopAction where
  | freeze | reset
  deriving DecidableEq, Repr

/-- A request frame's command and body fields (R178). Fields whose stated range is narrower than their byte keep the byte: they
are tested when the request is taken (R174). A freshness interval of 0 is "none" (R177). -/
inductive Request where
  | nop
  | status
  | attend (on : Bool)
  | resend (tag : Byte)
  | create (key : Key) (width : Byte) (readers : PortSet) (fresh : BitVec 16)
  | find (target : FindBy)
  | read (slot : Slot) (offset length : Byte)
  | scan (key mask : Key) (after : Option Key) (count : BitVec 3)
  | openUpdate (slot : Slot)
  | write (slot : Slot) (offset : Byte) (data : List Byte)
  | commit (slot : Slot)
  | discard (slot : Slot)
  | put (slot : Slot) (offset : Byte) (data : List Byte)
  | refresh (slot : Slot)
  | retire (slot : Slot)
  | watch (filter : Byte) (key mask : Key) (kinds : KindSet)
  | unwatch (filter : Byte)
  | take (count : Byte)
  | restore (target : Byte)
  | flush (target : Byte)
  | reassign (slot : Slot) (target : Byte)
  | timing (tickdiv : Byte) (holdlim : BitVec 16)
  deriving DecidableEq, Repr

/-- The command of a request. -/
def Request.command : Request → Command
  | .nop => .nop
  | .status => .status
  | .attend _ => .attend
  | .resend _ => .resend
  | .create .. => .create
  | .find _ => .find
  | .read .. => .read
  | .scan .. => .scan
  | .openUpdate _ => .openUpdate
  | .write .. => .write
  | .commit _ => .commit
  | .discard _ => .discard
  | .put .. => .put
  | .refresh _ => .refresh
  | .retire _ => .retire
  | .watch .. => .watch
  | .unwatch _ => .unwatch
  | .take _ => .take
  | .restore _ => .restore
  | .flush _ => .flush
  | .reassign .. => .reassign
  | .timing .. => .timing

/-- One constructor for each row of spec/opcode_table.json.

The constructors named after a request other than RESEND are the TAKEN commands: port `port`'s presented request with these fields
is granted by the directory arbiter and carried out whole. `resend`, `badFrame`, `checkFail`, `held` and `requestPresented` are the
arrival of a frame's check byte at port `port`'s engine; `frame` is the bytes received from CMD to CHK. The rest are events of the
port engines, the timer unit, the standing unit and the supply watch; `resetRelease` carries the levels of the strap inputs: of SUP1 in
bit 1 and SUP0 in bit 0 of `sup`, 1 for high, and of SWM in `swm`, true for high. -/
inductive Instr where
  | nop (port : Port)
  | status (port : Port)
  | attend (port : Port) (on : Bool)
  | resend (port : Port) (frame : List Byte)
  | create (port : Port) (key : Key) (width : Byte) (readers : PortSet) (fresh : BitVec 16)
  | find (port : Port) (target : FindBy)
  | read (port : Port) (slot : Slot) (offset length : Byte)
  | scan (port : Port) (key mask : Key) (after : Option Key) (count : BitVec 3)
  | openUpdate (port : Port) (slot : Slot)
  | write (port : Port) (slot : Slot) (offset : Byte) (data : List Byte)
  | commit (port : Port) (slot : Slot)
  | discard (port : Port) (slot : Slot)
  | put (port : Port) (slot : Slot) (offset : Byte) (data : List Byte)
  | refresh (port : Port) (slot : Slot)
  | retire (port : Port) (slot : Slot)
  | watch (port : Port) (filter : Byte) (key mask : Key) (kinds : KindSet)
  | unwatch (port : Port) (filter : Byte)
  | take (port : Port) (count : Byte)
  | restore (port : Port) (target : Byte)
  | flush (port : Port) (target : Byte)
  | reassign (port : Port) (slot : Slot) (target : Byte)
  | timing (port : Port) (tickdiv : Byte) (holdlim : BitVec 16)
  | tick
  | expiryRequest
  | freshExpiry (slot : Slot)
  | holdExpiry (slot : Slot)
  | sever (port : Port)
  | restorationComplete (port : Port)
  | standingChange (port : Port)
  | selectPeriodStart (port : Port)
  | selectPeriodEnd (port : Port)
  | badFrame (port : Port) (frame : List Byte)
  | checkFail (port : Port) (frame : List Byte)
  | held (port : Port) (frame : List Byte)
  | powerOnReset
  | pinReset
  | resetRelease (sup : BitVec 2) (swm : Bool)
  | settleEnd
  | droopFreeze
  | supplyReset
  | droopRecovery
  | requestPresented (port : Port) (frame : List Byte)
  deriving DecidableEq, Repr

/-- The command by which port `port`'s presented request is taken; RESEND never reaches the arbiter (R152). -/
def Request.taken (port : Port) : Request → Option Instr
  | .nop => some (.nop port)
  | .status => some (.status port)
  | .attend on => some (.attend port on)
  | .resend _ => none
  | .create key width readers fresh => some (.create port key width readers fresh)
  | .find target => some (.find port target)
  | .read slot offset length => some (.read port slot offset length)
  | .scan key mask after count => some (.scan port key mask after count)
  | .openUpdate slot => some (.openUpdate port slot)
  | .write slot offset data => some (.write port slot offset data)
  | .commit slot => some (.commit port slot)
  | .discard slot => some (.discard port slot)
  | .put slot offset data => some (.put port slot offset data)
  | .refresh slot => some (.refresh port slot)
  | .retire slot => some (.retire port slot)
  | .watch filter key mask kinds => some (.watch port filter key mask kinds)
  | .unwatch filter => some (.unwatch port filter)
  | .take count => some (.take port count)
  | .restore target => some (.restore port target)
  | .flush target => some (.flush port target)
  | .reassign slot target => some (.reassign port slot target)
  | .timing tickdiv holdlim => some (.timing port tickdiv holdlim)

end Sys2Proof
end

