-- ==== Sys2Proof/Decode.lean ====
section
/-! DEFINITION. The reading of a command from a word of spec/opcode_table.json. The table gives NO row any bits (every row's "fields"
is empty and none has "fixed"), so no word spells a command. The request frames of R178 are read in
Sys2Proof/Machine/Operands.lean. -/

namespace Sys2Proof

/-- The command that the word `w` of `nbits` bits spells by the table's bits: none, since no row of the table gives bits (DEDUCED, log 22). -/
def decodeTableWord (_nbits _w : Nat) : Option Instr := none

end Sys2Proof
end

