-- ==== Sys2Proof/Config.lean ====
section
/-! DEFINITION. The fixed quantities of the part, from the table of limits of spec/00_scope.md (1.4). The manual leaves no result of
a command open, so there is no free value here. -/

namespace Sys2Proof.Config

/-- Granules of the value store (R15). -/
def granules : Nat := 1024

/-- Bytes in a granule (R15). -/
def granuleBytes : Nat := 16

/-- Largest point width (R1, R22). -/
def maxWidth : Nat := 64

/-- Most bytes in one READ, WRITE or PUT (R36, R42, R52). -/
def maxTransfer : Nat := 16

/-- Open updates a port may hold (R21, R34). -/
def maxOpenUpdates : Nat := 4

/-- Entries a notice queue holds, the last of them a GAP (R78). -/
def queueDepth : Nat := 16

/-- Entries in one SCAN answer and records in one TAKE answer (R59, R83). -/
def maxEntries : Nat := 4

/-- TICKDIV after reset (R91). -/
def resetTickdiv : Byte := 9

/-- HOLDLIM after reset (R93). -/
def resetHoldlim : Nat := 200

/-- Largest HOLDLIM (R93). -/
def maxHoldlim : Nat := 4095

/-- NOP frames that complete a restoration (R143). -/
def restoreRun : Nat := 32

/-- Largest request body length (R151, R174). -/
def maxBody : Nat := 24

/-- The settle interval, in microseconds (R166). -/
def settleInterval : Nat := 2000

/-- The droop and recovery duration, in microseconds (R167, R168). -/
def droopTime : Nat := 2

/-- One period of the timer unit's clock, in microseconds (R91). -/
def clockPeriod : Nat := 100

end Sys2Proof.Config
end

