-- ==== Sys2Proof/Machine/State.lean ====
section
/-! DEFINITION. The state of the part, block by block as the manual's block diagram gives it (spec/00_scope.md 1.3), all of it plain
data, and the state right after reset. INVENTORY.md lists every field with its rule and its reset value. -/

namespace Sys2Proof.Machine

/-! ## The directory core -/

/-- The life state of a slot's point; FREE is a slot that holds no point (R1, R2). -/
inductive PointState where
  | vacant | live | stale | retiring
  deriving DecidableEq, Repr

/-- The record of a slot that is not FREE (R1, R2). The buffers of a RETIRING point are absent: both lists are empty
(DEDUCED, log 14). -/
structure Point where
  /-- life state -/
  state : PointState
  /-- the point's name -/
  key : Key
  /-- the port that may publish -/
  owner : Port
  /-- length of the value in bytes, 1 to 64 -/
  width : Nat
  /-- the readers set as CREATE gave it -/
  readers : PortSet
  /-- freshness interval in ticks; 0 is none (R177) -/
  fresh : BitVec 16
  /-- number of the committed value; 0 is never committed -/
  version : Version
  /-- the value READ returns -/
  committed : List Byte
  /-- the value an open update builds -/
  pendingBuf : List Byte
  /-- an update is open -/
  updateOpen : Bool
  /-- a reader's request is unanswered -/
  refreshPending : Bool
  /-- the owner is severed and not yet restored or replaced -/
  orphaned : Bool
  /-- queued notices that name the slot -/
  refs : Nat
  deriving DecidableEq, Repr

/-- The directory core's structures: the point table (R1), the key index (R11), the free-granule count of the value store (R15) and
the open-update counts (R21). The reference counts (R18) stand in the records. -/
structure Directory where
  /-- the 256 slots; `none` is FREE -/
  table : Vector (Option Point) 256
  /-- keys in use with their slots, in ascending key order -/
  index : List (Key × Slot)
  /-- granules held by no point -/
  freeGranules : Nat
  /-- updates each port holds open -/
  openUpdates : Vector Nat 4
  deriving DecidableEq, Repr

/-! ## The notice unit -/

/-- A port's privileges (R128, R132). -/
inductive Standing where
  | good | warned | restricted | severed | restoring
  deriving DecidableEq, Repr

/-- A watch filter (R67). -/
structure Filter where
  inUse : Bool
  key : Key
  mask : Key
  kinds : KindSet
  deriving DecidableEq, Repr

/-- The four kinds routed through filters (R71). -/
inductive WatchKind where
  | changed | stale | retired | owner
  deriving DecidableEq, Repr

/-- An entry of a notice queue: a kind and the fields of that kind (R71). -/
inductive Notice where
  | changed (slot : Slot) (key : Key) (version : Version) (filter : FilterNo) (overrun : Bool)
  | stale (slot : Slot) (key : Key) (version : Version) (filter : FilterNo) (overrun : Bool)
  | retired (slot : Slot) (key : Key) (version : Version) (filter : FilterNo) (overrun : Bool)
  | owner (slot : Slot) (key : Key) (owner : Option Port) (filter : FilterNo) (overrun : Bool)
  | refresh (slot : Slot) (key : Key) (overrun : Bool)
  | expired (slot : Slot) (key : Key) (overrun : Bool)
  | standing (port : Port) (standing : Standing) (overrun : Bool)
  | gap
  deriving DecidableEq, Repr

/-- What the notice unit holds for one port: its filter table (R67) and its queue, head first (R77, R78). -/
structure NoticePort where
  filters : Vector Filter 8
  queue : List Notice
  deriving DecidableEq, Repr

/-! ## The timer unit -/

/-- The two deadline kinds (R95). -/
inductive DeadlineKind where
  | fresh | hold
  deriving DecidableEq, Repr

/-- An entry of the deadline list (R95). `due` records that the tick counter has reached the due tick: an entry is due from that
moment until it is removed, whatever the counter does afterwards (R96; DEDUCED, log 19). -/
structure Deadline where
  slot : Slot
  kind : DeadlineKind
  dueTick : BitVec 32
  due : Bool
  deriving DecidableEq, Repr

/-- The timer unit (R91, R92, R93, R95, R99). -/
structure Timer where
  /-- TICKDIV, 0 to 255 -/
  tickdiv : Byte
  /-- HOLDLIM, 1 to 4095 -/
  holdlim : Nat
  /-- 100 microsecond periods elapsed since the last tick -/
  subTick : Nat
  /-- the tick counter -/
  tick : BitVec 32
  /-- the deadline list, head first -/
  deadlines : List Deadline
  /-- the presented expiry request -/
  request : Option (Slot × DeadlineKind)
  deriving DecidableEq, Repr

/-! ## The standing unit -/

/-- What the standing unit holds for one port (R128). -/
structure StandingRec where
  score : Nat
  standing : Standing
  severPending : Bool
  reportPending : Bool
  deriving DecidableEq, Repr

/-- The standing unit's three kinds of request (R135). -/
inductive StandingRequest where
  | sever (port : Port)
  | restored (port : Port)
  | change (port : Port)
  deriving DecidableEq, Repr

/-- The standing unit (R128, R135). -/
structure StandingUnit where
  recs : Vector StandingRec 4
  /-- the presented request -/
  request : Option StandingRequest
  /-- the port of the most recently granted request -/
  lastPort : Port
  deriving DecidableEq, Repr

/-! ## The port engines -/

/-- An engine's place in the life of a frame (R149). -/
inductive LinkState where
  | idle | receiving | inFlight | sending
  deriving DecidableEq, Repr

/-- A port's select period (R147): SEL high, a period answered FFh throughout or for the rest of its bytes (R154, R157, R164), or
one whose header bytes are the port status byte and the queue count (R153). -/
inductive Period where
  | high
  | blank
  | active (statusByte queueCount : Byte)
  deriving DecidableEq, Repr

/-- An answer the engine shifts out (R153): tag, status and body, and whether it was ready at the acceptance of CHK (an answer the engine
formed itself) or later (a response handed back, a request withdrawn). -/
structure Answer where
  tag : Byte
  status : Status
  body : List Byte
  atCheck : Bool
  deriving DecidableEq, Repr

/-- What the response hold keeps of a response (R148). -/
structure Response where
  tag : Byte
  command : Command
  status : Status
  body : List Byte
  deriving DecidableEq, Repr

/-- A request in flight: presented to the arbiter and not yet taken (R24, R149). -/
structure PortRequest where
  tag : Byte
  request : Request
  deriving DecidableEq, Repr

/-- A port engine (R148). -/
structure Engine where
  link : LinkState
  period : Period
  /-- the answer being shifted out -/
  answer : Option Answer
  /-- the request presented to the arbiter -/
  request : Option PortRequest
  /-- the response hold -/
  hold : Option Response
  /-- the attention enable -/
  attention : Bool
  restoreCount : Nat
  /-- bytes received in the current select period -/
  received : Nat
  /-- the request being assembled: the bytes kept -/
  assembled : List Byte
  deriving DecidableEq, Repr

/-! ## The supply watch and the arbiter -/

/-- The supply state (R162). -/
inductive SupplyState where
  | reset | settling | running | frozen
  deriving DecidableEq, Repr

/-- The supply watch and its inputs (R162, R164, R165). -/
structure SupplyWatch where
  state : SupplyState
  /-- latched SUP: the supervisor port -/
  sup : Port
  /-- latched SWM -/
  swm : DroopAction
  /-- levels of the strap inputs SUP1, in bit 1, and SUP0, in bit 0 -/
  supStraps : BitVec 2
  /-- the strap input SWM is high -/
  swmStrap : Bool
  /-- settle time in microseconds, 0 to 2000 -/
  settleTime : Nat
  /-- low time in microseconds, 0 to 2 -/
  lowTime : Nat
  /-- high time in microseconds, 0 to 2 -/
  highTime : Nat
  /-- the supply is at or above the valid level -/
  vddValid : Bool
  /-- RESET_N is high -/
  resetN : Bool
  /-- a droop detected under SWM latched RESET is in progress -/
  resetDroop : Bool
  deriving DecidableEq, Repr

/-- The six requesters of the arbiter's ring (R24). -/
inductive Requester where
  | port (port : Port)
  | timer
  | standing
  deriving DecidableEq, Repr

/-- The whole part, and the queue of commands that wait for it. -/
structure State where
  supply : SupplyWatch
  dir : Directory
  notices : Vector NoticePort 4
  timer : Timer
  standing : StandingUnit
  engines : Vector Engine 4
  /-- the arbiter's most recent grant (R25) -/
  lastGrant : Requester
  /-- the MODEL's own: the commands that wait, first in, first out -/
  pending : List Instr
  deriving DecidableEq, Repr

/-- Why a step could stop the part. The spec gives none: every command has an effect, a refusal status or no effect, so nothing raises
a fault. SAFE: there is nothing a fault could hide. -/
inductive Fault where
  deriving DecidableEq, Repr

/-- Why a step could have no meaning. -/
inductive Refusal where
  /-- Raised by `exec` alone, for a command that has no meaning yet. No arm raises it in this model. SAFE: the run stops. -/
  | notModelled (mnemonic : String)
  deriving DecidableEq, Repr

/-! ## Reset values -/

/-- A filter that is not in use (R67). -/
def Filter.unused : Filter := { inUse := false, key := 0, mask := 0, kinds := 0 }

/-- The directory after every reset (R29). -/
def Directory.reset : Directory :=
  { table := Vector.replicate 256 none, index := [], freeGranules := Config.granules, openUpdates := Vector.replicate 4 0 }

/-- A port's filters and queue after every reset (R67, R89). -/
def NoticePort.reset : NoticePort := { filters := Vector.replicate 8 Filter.unused, queue := [] }

/-- The timer unit after every reset (R109). -/
def Timer.reset : Timer :=
  { tickdiv := Config.resetTickdiv, holdlim := Config.resetHoldlim, subTick := 0, tick := 0, deadlines := [], request := none }

/-- A port's score and standing after every reset (R146). -/
def StandingRec.reset : StandingRec := { score := 0, standing := .good, severPending := false, reportPending := false }

/-- The standing unit after every reset; the rotation begins at P0, so the last port is P3 (R135, R146). -/
def StandingUnit.reset : StandingUnit := { recs := Vector.replicate 4 StandingRec.reset, request := none, lastPort := 3 }

/-- A port engine after reset, with SEL high (R148). DESIGN CHOICE (log 16): the spec gives no level of SEL. -/
def Engine.reset : Engine :=
  { link := .idle, period := .high, answer := none, request := none, hold := none, attention := false, restoreCount := 0,
    received := 0, assembled := [] }

/-- The supply watch after a power-on reset (R162, R164). DESIGN CHOICE: the strap inputs, low, which the latched straps
follow (log 7), the low and high times (log 8) and the input levels (log 9). -/
def SupplyWatch.reset : SupplyWatch :=
  { state := .reset, sup := 0, swm := .freeze, supStraps := 0, swmStrap := false, settleTime := 0, lowTime := 0, highTime := 0,
    vddValid := false, resetN := true, resetDroop := false }

/-- The part right after reset (R29, R89, R109, R146, R148, R162), with no command waiting. -/
def State.reset : State :=
  { supply := SupplyWatch.reset, dir := Directory.reset, notices := Vector.replicate 4 NoticePort.reset, timer := Timer.reset,
    standing := StandingUnit.reset, engines := Vector.replicate 4 Engine.reset, lastGrant := .standing, pending := [] }

end Sys2Proof.Machine
end

