-- ==== Sys2Proof/Machine/Ops.lean ====
section
/-! DEFINITION. The named operations over the state: reading and writing each block's structures, then the operations the rules share
(the key index, the reference counts, offering a notice, the deadline list, closing an update, a commit, a flush). -/

namespace Sys2Proof.Machine

/-- The four ports, in order. -/
def allPorts : List Port := [0, 1, 2, 3]

/-- The eight filters of a port, in order. -/
def allFilters : List FilterNo := [0, 1, 2, 3, 4, 5, 6, 7]

/-- The 256 slots, in order. -/
def allSlots : List Slot := List.finRange 256

/-! ## Access to each block -/

/-- The record of slot `i`; `none` when the slot is FREE. -/
def State.point (s : State) (i : Slot) : Option Point := s.dir.table.get i

/-- Slot `i` holds `x`. -/
def State.setPoint (s : State) (i : Slot) (x : Option Point) : State :=
  { s with dir := { s.dir with table := s.dir.table.set i.val x i.isLt } }

/-- Port `p`'s open-update count (R21). -/
def State.openUpdates (s : State) (p : Port) : Nat := s.dir.openUpdates.get p

/-- Port `p`'s open-update count becomes `n`. -/
def State.setOpenUpdates (s : State) (p : Port) (n : Nat) : State :=
  { s with dir := { s.dir with openUpdates := s.dir.openUpdates.set p.val n p.isLt } }

/-- The key index becomes `l`. -/
def State.setIndex (s : State) (l : List (Key × Slot)) : State := { s with dir := { s.dir with index := l } }

/-- The free-granule count becomes `n`. -/
def State.setFreeGranules (s : State) (n : Nat) : State := { s with dir := { s.dir with freeGranules := n } }

/-- Port `p`'s notice queue, head first. -/
def State.queue (s : State) (p : Port) : List Notice := (s.notices.get p).queue

/-- Port `p`'s filters. -/
def State.filters (s : State) (p : Port) : Vector Filter 8 := (s.notices.get p).filters

/-- Port `p`'s notice queue becomes `q`. -/
def State.setQueue (s : State) (p : Port) (q : List Notice) : State :=
  { s with notices := s.notices.set p.val { s.notices.get p with queue := q } p.isLt }

/-- Port `p`'s filter table becomes `fs`. -/
def State.setFilters (s : State) (p : Port) (fs : Vector Filter 8) : State :=
  { s with notices := s.notices.set p.val { s.notices.get p with filters := fs } p.isLt }

/-- Port `p`'s engine. -/
def State.engine (s : State) (p : Port) : Engine := s.engines.get p

/-- Port `p`'s engine becomes `e`. -/
def State.setEngine (s : State) (p : Port) (e : Engine) : State := { s with engines := s.engines.set p.val e p.isLt }

/-- What the standing unit holds for port `p`. -/
def State.record (s : State) (p : Port) : StandingRec := s.standing.recs.get p

/-- The standing unit holds `r` for port `p`. -/
def State.setRecord (s : State) (p : Port) (r : StandingRec) : State :=
  { s with standing := { s.standing with recs := s.standing.recs.set p.val r p.isLt } }

/-- The port of the standing unit's most recently granted request is `p` (R135). -/
def State.setLastPort (s : State) (p : Port) : State := { s with standing := { s.standing with lastPort := p } }

/-- The standing unit's presented request becomes `r`. -/
def State.setStandingRequest (s : State) (r : Option StandingRequest) : State :=
  { s with standing := { s.standing with request := r } }

/-- The timer unit becomes `t`. -/
def State.setTimer (s : State) (t : Timer) : State := { s with timer := t }

/-- The deadline list becomes `l`. -/
def State.setDeadlines (s : State) (l : List Deadline) : State := s.setTimer { s.timer with deadlines := l }

/-- The supply watch becomes `w`. -/
def State.setSupply (s : State) (w : SupplyWatch) : State := { s with supply := w }

/-- The arbiter's most recent grant is to `r` (R25). -/
def State.setGrant (s : State) (r : Requester) : State := { s with lastGrant := r }

/-- The supervisor port: latched SUP (R162). -/
def State.supervisor (s : State) : Port := s.supply.sup

/-- The port is mute: its sever is pending, or it stands SEVERED (R136, R141, R157). -/
def State.mute (s : State) (p : Port) : Bool :=
  (s.record p).severPending || (s.record p).standing == .severed

/-! ## Points -/

/-- Granules in one buffer of a point of width `w` (R2, R15). -/
def granulesFor (w : Nat) : Nat := (w + (Config.granuleBytes - 1)) / Config.granuleBytes

/-- Granules the record holds: two buffers, or none when it is RETIRING (R2, R15; which ones is not kept: DEDUCED, log 5). -/
def Point.granules (pt : Point) : Nat := if pt.state = .retiring then 0 else 2 * granulesFor pt.width

/-- Port `p` is a reader of the point (R8). -/
def Point.isReader (pt : Point) (p : Port) : Bool := pt.owner == p || pt.readers.getLsbD p.val

/-- The next version: 65,535 is followed by 1 (R31). -/
def nextVersion (v : Version) : Version := if v = 65535 then 1 else v + 1

/-- `data` in place of the bytes of `buf` from `offset` on (R37). -/
def splice (buf : List Byte) (offset : Nat) (data : List Byte) : List Byte :=
  buf.take offset ++ data ++ buf.drop (offset + data.length)

/-- The count of FREE slots (R3). -/
def State.freeSlots (s : State) : Nat := allSlots.countP fun i => (s.point i).isNone

/-- The FREE slot with the lowest number (R14). -/
def State.lowestFree (s : State) : Option Slot := allSlots.find? fun i => (s.point i).isNone

/-! ## The key index -/

/-- The exact lookup of R13. -/
def State.lookupKey (s : State) (k : Key) : Option Slot := (s.dir.index.find? fun e => e.1 == k).map (·.2)

/-- An entry joins between the greatest key below it and the least key above it (R12). -/
def indexInsert (k : Key) (i : Slot) : List (Key × Slot) → List (Key × Slot)
  | [] => [(k, i)]
  | e :: es => if k < e.1 then (k, i) :: e :: es else e :: indexInsert k i es

/-- The entry of slot `i` leaves and the list closes up (R12). -/
def indexRemove (i : Slot) (l : List (Key × Slot)) : List (Key × Slot) := l.filter fun e => e.2 != i

/-- Key `k` agrees with `key` in every bit where `mask` holds a 1 (R13, R60, R68). -/
def keyAgrees (k key mask : Key) : Bool := k &&& mask == key &&& mask

/-- The entries the ordered walk of R13 yields, all of them, in ascending key order. -/
def walkIndex (l : List (Key × Slot)) (key mask : Key) (after : Option Key) : List (Key × Slot) :=
  l.filter fun e => keyAgrees e.1 key mask && (match after with
    | none => true
    | some a => decide (a < e.1))

/-! ## Reference counts -/

/-- Slot `i` becomes FREE: its record is cleared and its index entry removed (R2, R12, R20). -/
def State.freeSlot (s : State) (i : Slot) : State := (s.setPoint i none).setIndex (indexRemove i s.dir.index)

/-- One more queued notice names slot `i` (R19). -/
def State.raiseRef (s : State) (i : Slot) : State :=
  match s.point i with
  | none => s
  | some pt => s.setPoint i (some { pt with refs := pt.refs + 1 })

/-- One queued notice naming slot `i` has left; a RETIRING slot whose count reaches 0 becomes FREE (R19, R20). -/
def State.lowerRef (s : State) (i : Slot) : State :=
  match s.point i with
  | none => s
  | some pt =>
    if pt.state = .retiring ∧ pt.refs - 1 = 0 then s.freeSlot i
    else s.setPoint i (some { pt with refs := pt.refs - 1 })

/-! ## Notices and queues -/

/-- The bit of a kinds set that names a filter-routed kind (R177). -/
def WatchKind.bit : WatchKind → Nat
  | .changed => 0
  | .stale => 1
  | .retired => 2
  | .owner => 3

/-- A filter matches a notice of kind `k` on a point with key `key` (R68). -/
def Filter.accepts (f : Filter) (k : WatchKind) (key : Key) : Bool :=
  f.inUse && keyAgrees key f.key f.mask && f.kinds.getLsbD k.bit

/-- The slot a notice names; STANDING and GAP name none (R18, R71). -/
def Notice.slot? : Notice → Option Slot
  | .changed i _ _ _ _ => some i
  | .stale i _ _ _ _ => some i
  | .retired i _ _ _ _ => some i
  | .owner i _ _ _ _ => some i
  | .refresh i _ _ => some i
  | .expired i _ _ => some i
  | .standing _ _ _ => none
  | .gap => none

/-- The queued entry `q` after the offered notice `n` is merged into it, or `none` if it may not be: an entry of the same kind naming
the same slot (or port) keeps its slot and key, takes the offered version, owner, filter or standing, and its overrun flag is set
(R77, R82; DEDUCED, log 13). -/
def Notice.absorb (q n : Notice) : Option Notice :=
  match q, n with
  | .changed i k _ _ _, .changed j _ v f _ => if i = j then some (.changed i k v f true) else none
  | .stale i k _ _ _, .stale j _ v f _ => if i = j then some (.stale i k v f true) else none
  | .retired i k _ _ _, .retired j _ v f _ => if i = j then some (.retired i k v f true) else none
  | .owner i k _ _ _, .owner j _ o f _ => if i = j then some (.owner i k o f true) else none
  | .refresh i k _, .refresh j _ _ => if i = j then some (.refresh i k true) else none
  | .expired i k _, .expired j _ _ => if i = j then some (.expired i k true) else none
  | .standing p _ _, .standing r st _ => if p = r then some (.standing p st true) else none
  | _, _ => none

/-- The queue with `n` coalesced into the first entry that may absorb it, if any (R77). -/
def coalesce (n : Notice) : List Notice → Option (List Notice)
  | [] => none
  | q :: qs =>
    match q.absorb n with
    | some q' => some (q' :: qs)
    | none => (coalesce n qs).map (q :: ·)

/-- A queue after `n` is offered to it and not withheld, and whether `n` was appended: coalescing first, then by the queue's length
(R77, R78). -/
def offerQueue (q : List Notice) (n : Notice) : List Notice × Bool :=
  match coalesce n q with
  | some q' => (q', false)
  | none =>
    if q.length < Config.queueDepth - 1 then (q ++ [n], true)
    else if q.length = Config.queueDepth - 1 ∧ q.getLast? ≠ some .gap then (q ++ [.gap], false)
    else (q, false)

/-- The slot, if any, gains a queued notice. -/
def State.raiseRefOf (s : State) (i : Option Slot) : State :=
  match i with
  | none => s
  | some i => s.raiseRef i

/-- Offer `n` to port `p`'s queue; withheld from a port that stands SEVERED or whose sever request is pending (R76 to R78). -/
def State.offer (s : State) (p : Port) (n : Notice) : State :=
  if s.mute p then s
  else
    let r := offerQueue (s.queue p) n
    if r.2 then (s.setQueue p r.1).raiseRefOf n.slot? else s.setQueue p r.1

/-- The filter by which an event of kind `k` on point `pt` reaches port `p`: the lowest-numbered one that matches, when `p` is neither
SEVERED nor sever-pending and is a reader of the point (R73). -/
def State.routeFilter (s : State) (pt : Point) (k : WatchKind) (p : Port) : Option FilterNo :=
  if s.mute p || !pt.isReader p then none
  else allFilters.find? fun f => ((s.filters p).get f).accepts k pt.key

/-- Offer port `p` its notice of an event of kind `k` on slot `i`, if R73 routes the event to it; `mk f` is the notice by filter `f`. -/
def State.routeTo (i : Slot) (k : WatchKind) (mk : FilterNo → Notice) (s : State) (p : Port) : State :=
  match s.point i with
  | none => s
  | some pt =>
    match s.routeFilter pt k p with
    | none => s
    | some f => s.offer p (mk f)

/-- Route an event of kind `k` on slot `i` to every port (R73). -/
def State.route (s : State) (i : Slot) (k : WatchKind) (mk : FilterNo → Notice) : State :=
  allPorts.foldl (State.routeTo i k mk) s

/-- Offer CHANGED for slot `i` to its watchers, carrying the point's version (R39, R72). -/
def State.routeChanged (s : State) (i : Slot) : State :=
  match s.point i with
  | none => s
  | some pt => s.route i .changed fun f => .changed i pt.key pt.version f false

/-- Offer STALE for slot `i` to its watchers, carrying the point's version (R101, R72). -/
def State.routeStale (s : State) (i : Slot) : State :=
  match s.point i with
  | none => s
  | some pt => s.route i .stale fun f => .stale i pt.key pt.version f false

/-- Offer RETIRED for slot `i` to its watchers, carrying the point's version (R111, R112). -/
def State.routeRetired (s : State) (i : Slot) : State :=
  match s.point i with
  | none => s
  | some pt => s.route i .retired fun f => .retired i pt.key pt.version f false

/-- Offer OWNER for slot `i` to its watchers, carrying `o`: a port, or none (R72, R126). -/
def State.routeOwner (o : Option Port) (s : State) (i : Slot) : State :=
  match s.point i with
  | none => s
  | some pt => s.route i .owner fun f => .owner i pt.key o f false

/-- Offer a STANDING notice to the supervisor port's queue (R76, R134). -/
def State.offerStanding (s : State) (p : Port) (st : Standing) : State := s.offer s.supervisor (.standing p st false)

/-- The entries `ns` have left a queue: the count of each slot they name falls, and a drained RETIRING slot becomes FREE (R19, R20, R85). -/
def State.releaseRefs (s : State) (ns : List Notice) : State := (ns.filterMap Notice.slot?).foldl State.lowerRef s

/-- Flush port `p`'s queue (R86). -/
def State.flushQueue (s : State) (p : Port) : State := (s.setQueue p []).releaseRefs (s.queue p)

/-! ## The deadline list -/

/-- HOLD stands before FRESH for one slot (R96). -/
def DeadlineKind.rank : DeadlineKind → Nat
  | .hold => 0
  | .fresh => 1

/-- Ticks the counter must advance to reach the due tick, counted across the wrap (R96). -/
def Deadline.distance (now : BitVec 32) (d : Deadline) : Nat := (d.dueTick - now).toNat

/-- Among entries not yet due, `a` stands ahead of `b`: the smaller distance, then the lower slot, then HOLD before FRESH (R96). -/
def Deadline.ahead (now : BitVec 32) (a b : Deadline) : Bool :=
  decide (a.distance now < b.distance now) ||
  (a.distance now == b.distance now &&
    (decide (a.slot < b.slot) || (a.slot == b.slot && decide (a.kind.rank < b.kind.rank))))

/-- A new entry takes its place in the order of R96, behind every due entry. -/
def insertDeadline (now : BitVec 32) (d : Deadline) : List Deadline → List Deadline
  | [] => [d]
  | x :: xs => if !x.due && d.ahead now x then d :: x :: xs else x :: insertDeadline now d xs

/-- The entry is slot `i`'s of kind `k`. -/
def Deadline.names (i : Slot) (k : DeadlineKind) (d : Deadline) : Bool := d.slot == i && d.kind == k

/-- Slot `i`'s entry of kind `k` leaves the list, if there is one (R97, R98). -/
def State.disarm (s : State) (i : Slot) (k : DeadlineKind) : State :=
  s.setDeadlines (s.timer.deadlines.filter fun d => !d.names i k)

/-- Slot `i`'s entry of kind `k` is armed `n` ticks ahead, in place of any it had (R35, R96, R97, R98). -/
def State.arm (s : State) (i : Slot) (k : DeadlineKind) (n : Nat) : State :=
  s.setDeadlines (insertDeadline s.timer.tick
    { slot := i, kind := k, dueTick := s.timer.tick + BitVec.ofNat 32 n, due := false }
    (s.timer.deadlines.filter fun d => !d.names i k))

/-- The list holds an entry of slot `i` and kind `k` that is due (R100). -/
def State.isDue (s : State) (i : Slot) (k : DeadlineKind) : Bool := s.timer.deadlines.any fun d => d.names i k && d.due

/-- The tick counter advances by one, the sub-tick count returns to 0, and the entries whose due tick it reaches become due (R91,
R92, R96). -/
def Timer.advance (t : Timer) : Timer :=
  let now := t.tick + 1
  { t with tick := now, subTick := 0,
           deadlines := t.deadlines.map fun d => { d with due := d.due || d.dueTick == now } }

/-! ## Updates and commits -/

/-- Close slot `i`'s open update, if it has one: the flag is cleared, the HOLD entry removed and the count of the point's owner lowered,
in one operation (R33). -/
def State.closeUpdate (s : State) (i : Slot) : State :=
  match s.point i with
  | none => s
  | some pt =>
    if pt.updateOpen then
      ((s.setPoint i (some { pt with updateOpen := false })).disarm i .hold).setOpenUpdates pt.owner (s.openUpdates pt.owner - 1)
    else s

/-- Abandon slot `i`'s open update, if it has one, and offer EXPIRED to the point's owner, regardless of filters (R75, R102, R124 step 1). -/
def State.expireUpdate (s : State) (i : Slot) : State :=
  match s.point i with
  | none => s
  | some pt => if pt.updateOpen then (s.closeUpdate i).offer pt.owner (.expired i pt.key false) else s

/-- What COMMIT and PUT share once the pending buffer holds the new value: the buffers exchange roles, the version advances, the point is
LIVE, refresh pending is cleared, FRESH is armed anew if the point has an interval, and CHANGED is offered (R32, R39, R43). -/
def State.publish (s : State) (i : Slot) : State :=
  match s.point i with
  | none => s
  | some pt =>
    let s1 := s.setPoint i (some { pt with committed := pt.pendingBuf, pendingBuf := pt.committed, version := nextVersion pt.version,
                                           state := .live, refreshPending := false })
    (if pt.fresh = 0 then s1.disarm i .fresh else s1.arm i .fresh pt.fresh.toNat).routeChanged i

end Sys2Proof.Machine
end

