-- ==== Sys2Proof/Machine/Flags.lean ====
section
/-! DEFINITION. What the part derives from counts and events: the fault score and the standing it gives, sever pending and report pending,
the restore count, the standing unit's choice of a request, the arbiter's choice of a requester, the attention line and the port
status byte. -/

namespace Sys2Proof.Machine

/-! ## Codes of enumerated fields (R177) -/

/-- Point state codes; 00h is FREE. -/
def PointState.code : PointState → Byte
  | .vacant => 0x01
  | .live => 0x02
  | .stale => 0x03
  | .retiring => 0x04

/-- Standing codes. -/
def Standing.code : Standing → Byte
  | .good => 0x00
  | .warned => 0x01
  | .restricted => 0x02
  | .restoring => 0x03
  | .severed => 0x04

/-- Supply state codes; code 0 never appears on the link (R176). -/
def SupplyState.code : SupplyState → Byte
  | .reset => 0x00
  | .settling => 0x01
  | .running => 0x02
  | .frozen => 0x03

/-- The port that the strap inputs name: SUP1, bit 1 and the more significant, and SUP0, bit 0 (R177). -/
def strapPort (sup : BitVec 2) : Port := ⟨sup.toNat, sup.isLt⟩

/-- The droop action that the strap input SWM selects: low FREEZE, high RESET (R177). -/
def strapAction (swm : Bool) : DroopAction := if swm then .reset else .freeze

/-- A flag as a bit. -/
def bit (b : Bool) : Byte := if b then 1 else 0

/-! ## The fault score and the standing -/

/-- The standing a score gives (R132). -/
def Standing.ofScore (n : Nat) : Standing :=
  if n ≤ 95 then .good else if n ≤ 159 then .warned else .restricted

/-- What a frame's outcome does to a score before it is held in range (R129). -/
def rescore (st : Status) (n : Nat) : Nat :=
  match st with
  | .checkFail | .badFrame => n + 8
  | .noSlot | .notOwner | .range => n + 2
  | .ok => n - 1
  | _ => n

/-- The top of a port's score: 254 for the supervisor port, 255 for the others (R129, R131). -/
def scoreCap (isSup : Bool) : Nat := if isSup then 254 else 255

/-- A port's record after an outcome: nothing while its sever is pending or it stands SEVERED or RESTORING (R130), or when the score does
not move; otherwise the score moves within its range, the standing follows it, a change of band sets report pending (R134) and 255 sets
sever pending (R136). -/
def StandingRec.after (isSup : Bool) (st : Status) (r : StandingRec) : StandingRec :=
  if r.severPending || r.standing == .severed || r.standing == .restoring then r
  else
    let n := min (rescore st r.score) (scoreCap isSup)
    if n = r.score then r
    else
    { score := n, standing := Standing.ofScore n, severPending := n == 255,
      reportPending := r.reportPending || Standing.ofScore n != r.standing }

/-- Count the outcome `st` of a frame of port `p` (R129, R130). -/
def State.scoreOutcome (s : State) (p : Port) (st : Status) : State :=
  s.setRecord p ((s.record p).after (p == s.supervisor) st)

/-- The commands of R133 are answered RESTRICTED in these standings. -/
def State.limited (s : State) (p : Port) : Bool :=
  (s.record p).standing == .restricted || (s.record p).standing == .restoring

/-- REASSIGN may not name this port as its target (R123). -/
def State.badTarget (s : State) (p : Port) : Bool :=
  (s.record p).standing == .severed || (s.record p).standing == .restoring || (s.record p).severPending

/-! ## The restore count (R143) -/

/-- A frame other than a NOP answered OK breaks the run of a RESTORING port; a count of 32 stays (DEDUCED, log 11). -/
def State.breakRun (s : State) (p : Port) : State :=
  if (s.record p).standing = .restoring ∧ (s.engine p).restoreCount ≠ Config.restoreRun then
    s.setEngine p { s.engine p with restoreCount := 0 }
  else s

/-- A NOP answered OK lengthens the run of a RESTORING port, up to 32. -/
def State.extendRun (s : State) (p : Port) : State :=
  if (s.record p).standing = .restoring ∧ (s.engine p).restoreCount ≠ Config.restoreRun then
    s.setEngine p { s.engine p with restoreCount := (s.engine p).restoreCount + 1 }
  else s

/-! ## Requests into the arbiter -/

/-- The four ports in rotation, beginning with the port after `p` (R135). -/
def portsAfter (p : Port) : List Port := [p + 1, p + 2, p + 3, p + 4]

/-- The first request the standing unit holds: a sever, then a restoration-complete, then a standing-change; within a kind by rotation
(R24, R135). -/
def State.heldRequest (s : State) : Option StandingRequest :=
  let order := portsAfter s.standing.lastPort
  match order.find? fun p => (s.record p).severPending && (s.engine p).request.isNone with
  | some p => some (.sever p)
  | none =>
    match order.find? fun p => (s.record p).standing == .restoring && (s.engine p).restoreCount == Config.restoreRun with
    | some p => some (.restored p)
    | none => (order.find? fun p => (s.record p).reportPending).map .change

/-- With no request presented, the standing unit presents the first one it holds (R135; at once: DEDUCED, log 10). -/
def State.presentHeld (s : State) : State :=
  match s.standing.request with
  | some _ => s
  | none => s.setStandingRequest s.heldRequest

/-- The requester has a request presented (R24). -/
def State.presented (s : State) : Requester → Bool
  | .port p => (s.engine p).request.isSome
  | .timer => s.timer.request.isSome
  | .standing => s.standing.request.isSome

/-- The fixed ring of R24. -/
def ring : List Requester := [.port 0, .port 1, .port 2, .port 3, .timer, .standing]

/-- The ring from the requester after `r` round to `r` itself (R25). -/
def ringAfter (r : Requester) : List Requester :=
  match r with
  | .port p => ring.drop (p.val + 1) ++ ring.take (p.val + 1)
  | .timer => .standing :: ring.take 5
  | .standing => ring

/-- The requester the arbiter grants next: none unless the supply state is RUNNING, else the first in ring order after the most recent
grant that has a request presented (R25, R28). -/
def State.nextGrant (s : State) : Option Requester :=
  if s.supply.state = .running then (ringAfter s.lastGrant).find? s.presented else none

/-! ## What a port drives -/

/-- The attention line is asserted (R87; computed, log 12). -/
def State.attentionLine (s : State) (p : Port) : Bool :=
  !(s.queue p).isEmpty && (s.engine p).attention && (s.record p).standing != .severed

/-- The port status byte (R176). -/
def State.statusByte (s : State) (p : Port) : Byte :=
  (s.record p).standing.code <<< 4 ||| s.supply.state.code <<< 2 ||| bit (!(s.queue p).isEmpty)

end Sys2Proof.Machine
end

