-- ==== Sys2Proof/Machine/Operands.lean ====
section
/-! DEFINITION. The operand forms: request frames read and written (R150, R151, R173 to R175, R178), and the bodies and records of answers
(R179 to R182). -/

namespace Sys2Proof.Machine

/-! ## Byte order (R172): most significant byte first -/

/-- A 16-bit field in two bytes. -/
def bytes2 (w : BitVec 16) : List Byte := [w.extractLsb' 8 8, w.extractLsb' 0 8]

/-- A count sent in two bytes. -/
def natBytes2 (n : Nat) : List Byte := bytes2 (BitVec.ofNat 16 n)

/-- A key or mask in three bytes. -/
def keyBytes (k : Key) : List Byte := [k.extractLsb' 16 8, k.extractLsb' 8 8, k.extractLsb' 0 8]

/-- Two bytes as a 16-bit field. -/
def ofBytes2 (a b : Byte) : BitVec 16 := a ++ b

/-- Three bytes as a key or mask. -/
def ofBytes3 (a b c : Byte) : Key := a ++ b ++ c

/-- A slot number's byte. -/
def slotByte (i : Slot) : Byte := BitVec.ofNat 8 i.val

/-- The slot a byte names. -/
def byteSlot (b : Byte) : Slot := ⟨b.toNat, b.isLt⟩

/-- A port's code (R177). -/
def portByte (p : Port) : Byte := BitVec.ofNat 8 p.val

/-- The port a target byte names; none when it is greater than 3 (R118, R123, R142). -/
def portOf (b : Byte) : Option Port := if h : b.toNat < 4 then some ⟨b.toNat, h⟩ else none

/-- The filter a filter byte names; none when it is greater than 7 (R69, R70). -/
def filterOf (b : Byte) : Option FilterNo := if h : b.toNat < 8 then some ⟨b.toNat, h⟩ else none

/-! ## The check byte (R173) -/

/-- One shift of the CRC-8 register, generator 07h. -/
def crcShift (r : Byte) : Byte := if r.msb then (r <<< 1) ^^^ 0x07 else r <<< 1

/-- One byte taken into the CRC-8 register. -/
def crcByte (r b : Byte) : Byte :=
  crcShift (crcShift (crcShift (crcShift (crcShift (crcShift (crcShift (crcShift (r ^^^ b))))))))

/-- The CRC-8 of a byte string. -/
def crc8 (bs : List Byte) : Byte := bs.foldl crcByte 0

/-! ## Commands and their bodies -/

/-- The code of each command (R178). -/
def commandCode : Command → Byte
  | .nop => 0x01
  | .status => 0x02
  | .attend => 0x03
  | .resend => 0x04
  | .create => 0x10
  | .find => 0x11
  | .read => 0x12
  | .scan => 0x13
  | .openUpdate => 0x20
  | .write => 0x21
  | .commit => 0x22
  | .discard => 0x23
  | .put => 0x24
  | .refresh => 0x25
  | .retire => 0x26
  | .watch => 0x30
  | .unwatch => 0x31
  | .take => 0x32
  | .restore => 0x40
  | .flush => 0x41
  | .reassign => 0x42
  | .timing => 0x43

/-- The 22 commands in the order of R178. -/
def allCommands : List Command :=
  [.nop, .status, .attend, .resend, .create, .find, .read, .scan, .openUpdate, .write, .commit, .discard, .put, .refresh, .retire,
   .watch, .unwatch, .take, .restore, .flush, .reassign, .timing]

/-- The command a CMD byte names (R151, test 2). -/
def commandOf (b : Byte) : Option Command := allCommands.find? fun c => commandCode c == b

/-- The body lengths a command allows (R151, test 3; R178). -/
def commandAllows (c : Command) (n : Nat) : Bool :=
  match c with
  | .nop | .status => n == 0
  | .attend | .resend | .openUpdate | .commit | .discard | .refresh | .retire | .unwatch | .take | .restore | .flush => n == 1
  | .create => n == 7
  | .find => n == 1 || n == 3
  | .read | .timing => n == 3
  | .scan => n == 10
  | .write | .put => 3 ≤ n && n ≤ 18
  | .watch => n == 8
  | .reassign => n == 2

/-- A body's fields, or `none` when a reserved field does not hold zero (R151, test 4; R175) or the body has not the command's shape. -/
def decodeBody (c : Command) (body : List Byte) : Option Request :=
  match c, body with
  | .nop, [] => some .nop
  | .status, [] => some .status
  | .attend, [b] => if b &&& 0xFE = 0 then some (.attend (b.getLsbD 0)) else none
  | .resend, [tag] => some (.resend tag)
  | .create, [k2, k1, k0, width, readers, f1, f0] =>
    if readers &&& 0xF0 = 0 then some (.create (ofBytes3 k2 k1 k0) width (readers.extractLsb' 0 4) (ofBytes2 f1 f0)) else none
  | .find, [i] => some (.find (.slot (byteSlot i)))
  | .find, [k2, k1, k0] => some (.find (.key (ofBytes3 k2 k1 k0)))
  | .read, [i, offset, length] => some (.read (byteSlot i) offset length)
  | .scan, [k2, k1, k0, m2, m1, m0, a2, a1, a0, control] =>
    if control &&& 0x78 = 0 ∧ (control.getLsbD 7 ∨ (a2 = 0 ∧ a1 = 0 ∧ a0 = 0)) then
      some (.scan (ofBytes3 k2 k1 k0) (ofBytes3 m2 m1 m0) (if control.getLsbD 7 then some (ofBytes3 a2 a1 a0) else none)
        (control.extractLsb' 0 3))
    else none
  | .openUpdate, [i] => some (.openUpdate (byteSlot i))
  | .write, i :: offset :: data => some (.write (byteSlot i) offset data)
  | .commit, [i] => some (.commit (byteSlot i))
  | .discard, [i] => some (.discard (byteSlot i))
  | .put, i :: offset :: data => some (.put (byteSlot i) offset data)
  | .refresh, [i] => some (.refresh (byteSlot i))
  | .retire, [i] => some (.retire (byteSlot i))
  | .watch, [f, k2, k1, k0, m2, m1, m0, kinds] =>
    if kinds &&& 0xF0 = 0 then some (.watch f (ofBytes3 k2 k1 k0) (ofBytes3 m2 m1 m0) (kinds.extractLsb' 0 4)) else none
  | .unwatch, [f] => some (.unwatch f)
  | .take, [n] => some (.take n)
  | .restore, [t] => some (.restore t)
  | .flush, [t] => some (.flush t)
  | .reassign, [i, t] => some (.reassign (byteSlot i) t)
  | .timing, [d, h1, h0] => some (.timing d (ofBytes2 h1 h0))
  | _, _ => none

/-- The body of a request (R178). -/
def encodeBody : Request → List Byte
  | .nop => []
  | .status => []
  | .attend on => [bit on]
  | .resend tag => [tag]
  | .create key width readers fresh => keyBytes key ++ [width, readers.zeroExtend 8] ++ bytes2 fresh
  | .find (.slot i) => [slotByte i]
  | .find (.key k) => keyBytes k
  | .read i offset length => [slotByte i, offset, length]
  | .scan key mask none count => keyBytes key ++ keyBytes mask ++ [0, 0, 0, count.zeroExtend 8]
  | .scan key mask (some a) count => keyBytes key ++ keyBytes mask ++ keyBytes a ++ [0x80 ||| count.zeroExtend 8]
  | .openUpdate i => [slotByte i]
  | .write i offset data => slotByte i :: offset :: data
  | .commit i => [slotByte i]
  | .discard i => [slotByte i]
  | .put i offset data => slotByte i :: offset :: data
  | .refresh i => [slotByte i]
  | .retire i => [slotByte i]
  | .watch f key mask kinds => f :: keyBytes key ++ keyBytes mask ++ [kinds.zeroExtend 8]
  | .unwatch f => [f]
  | .take n => [n]
  | .restore t => [t]
  | .flush t => [t]
  | .reassign i t => [slotByte i, t]
  | .timing d h => d :: bytes2 h

/-! ## Frames -/

/-- What the engine finds in the bytes of a select period. -/
inductive Verdict where
  /-- the check byte has not arrived -/
  | incomplete
  /-- a test of R151 other than the last fails -/
  | badFrame (tag : Byte)
  /-- the check byte is not the CRC-8 -/
  | checkFail (tag : Byte)
  /-- a well-formed request -/
  | good (tag : Byte) (request : Request)
  deriving DecidableEq, Repr

/-- The engine's reading of the bytes from CMD on, in the order of R151; bytes after CHK are ignored (R150). -/
def checkFrame : List Byte → Verdict
  | cmd :: tag :: len :: rest =>
    match rest.drop len.toNat with
    | [] => .incomplete
    | chk :: _ =>
      if len.toNat > Config.maxBody then .badFrame tag
      else
        match commandOf cmd with
        | none => .badFrame tag
        | some c =>
          if commandAllows c len.toNat then
            match decodeBody c (rest.take len.toNat) with
            | none => .badFrame tag
            | some r => if crc8 (cmd :: tag :: len :: rest.take len.toNat) = chk then .good tag r else .checkFail tag
          else .badFrame tag
  | _ => .incomplete

/-- A whole request frame, CMD to CHK (R173, R178). -/
def encodeFrame (tag : Byte) (r : Request) : List Byte :=
  let covered := commandCode r.command :: tag :: BitVec.ofNat 8 (encodeBody r).length :: encodeBody r
  covered ++ [crc8 covered]

/-- The bytes of a frame the engine keeps: CMD, TAG, LEN and the first 24 body bytes (R150). -/
def keptBytes (frame : List Byte) : List Byte := frame.take (Config.maxBody + 3)

/-- The length of the frame whose CHK has arrived: 4 more than LEN (R150). -/
def frameLength : List Byte → Nat
  | _ :: _ :: len :: _ => len.toNat + 4
  | bs => bs.length

/-! ## Answers -/

/-- The code of each status (R180). -/
def statusCode : Status → Byte
  | .ok => 0x00
  | .checkFail => 0x01
  | .badFrame => 0x02
  | .held => 0x03
  | .restricted => 0x04
  | .notSupervisor => 0x05
  | .noHeld => 0x06
  | .noSlot => 0x10
  | .noKey => 0x11
  | .keyInUse => 0x12
  | .tableFull => 0x13
  | .storeFull => 0x14
  | .range => 0x15
  | .notOwner => 0x16
  | .guarded => 0x17
  | .noValue => 0x18
  | .retiring => 0x19
  | .busy => 0x1A
  | .notOpen => 0x1B
  | .tooMany => 0x1C
  | .orphaned => 0x1D
  | .badTarget => 0x1E

/-- An answer's bytes on SDO: marker, TAG, STATUS, LEN, BODY and CHK (R153, R173). -/
def Answer.bytes (a : Answer) : List Byte :=
  let covered := a.tag :: statusCode a.status :: BitVec.ofNat 8 a.body.length :: a.body
  0x5C :: covered ++ [crc8 covered]

/-- The byte of the period, counted from 1, that carries the marker of `a`: the byte after CHK when the answer was ready at CHK, otherwise the
first byte boundary after it became ready, `wait` bytes further on (R153). How many filler bytes the host clocks in before that is the
host's timing, and `wait` stands for every such number (log 6). -/
def Engine.markerByte (e : Engine) (a : Answer) (wait : Nat) : Nat := e.received + 1 + (if a.atCheck then 0 else wait)

/-- Byte `n`, counted from 1, of what the port shifts out in its select period: nothing while SEL is high; FFh where the period is, or has
become, FFh; otherwise the port status byte, the queue count, FFh until the answer is ready, the answer, and FFh until SEL rises (R153,
R154, R157, R176; a period that has become FFh has this for the bytes it still holds, log 6). -/
def Engine.sdoByte (e : Engine) (wait n : Nat) : Option Byte :=
  match e.period with
  | .high => none
  | .blank => some 0xFF
  | .active st count =>
    if n = 1 then some st
    else if n = 2 then some count
    else
      match e.answer with
      | none => some 0xFF
      | some a =>
        if n < e.markerByte a wait then some 0xFF
        else some ((a.bytes[n - e.markerByte a wait]?).getD 0xFF)

/-- What a taken operation hands back: a status and a body. -/
structure Reply where
  status : Status
  body : List Byte
  deriving DecidableEq, Repr

/-- OK with a body. -/
def Reply.ok (body : List Byte) : Reply := { status := .ok, body := body }

/-- A refusal: a status and no body (R161). -/
def Reply.refuse (st : Status) : Reply := { status := st, body := [] }

/-- The version field of a FIND record or SCAN entry: 0000h when the asking port is not a reader (R175, R181). -/
def versionField (pt : Point) (p : Port) : List Byte := if pt.isReader p then bytes2 pt.version else [0, 0]

/-- The FIND record (R181). -/
def findRecord (i : Slot) (pt : Point) (p : Port) : List Byte :=
  [slotByte i] ++ keyBytes pt.key ++
  [pt.state.code, portByte pt.owner, BitVec.ofNat 8 pt.width, pt.readers.zeroExtend 8] ++ bytes2 pt.fresh ++
  [bit pt.updateOpen ||| bit pt.refreshPending <<< 1 ||| bit pt.orphaned <<< 2 ||| bit (pt.isReader p) <<< 7,
   BitVec.ofNat 8 pt.refs] ++ versionField pt p

/-- A SCAN entry (R181). -/
def scanEntry (key : Key) (i : Slot) (pt : Point) (p : Port) : List Byte :=
  keyBytes key ++ [slotByte i, pt.state.code ||| bit (pt.isReader p) <<< 7] ++ versionField pt p

/-- Byte 1 of a notice record: the overrun flag and, for the filter-routed kinds, the filter number (R182). -/
def noticeByte (filter : Nat) (overrun : Bool) : Byte := BitVec.ofNat 8 filter ||| bit overrun <<< 7

/-- The 8-byte record of a notice (R182). -/
def Notice.encode : Notice → List Byte
  | .changed i k v f o => [0x01, noticeByte f.val o, slotByte i] ++ keyBytes k ++ bytes2 v
  | .stale i k v f o => [0x02, noticeByte f.val o, slotByte i] ++ keyBytes k ++ bytes2 v
  | .retired i k v f o => [0x03, noticeByte f.val o, slotByte i] ++ keyBytes k ++ bytes2 v
  | .owner i k ow f o =>
    [0x04, noticeByte f.val o, slotByte i] ++ keyBytes k ++ [(match ow with
      | none => 0xFF
      | some p => portByte p), 0]
  | .refresh i k o => [0x05, noticeByte 0 o, slotByte i] ++ keyBytes k ++ [0, 0]
  | .expired i k o => [0x06, noticeByte 0 o, slotByte i] ++ keyBytes k ++ [0, 0]
  | .standing p st o => [0x07, noticeByte 0 o, portByte p, st.code, 0, 0, 0, 0]
  | .gap => [0x08, 0, 0, 0, 0, 0, 0, 0]

end Sys2Proof.Machine
end

