-- ==== Sys2Proof/Machine/Link.lean ====
section
/-! DEFINITION. The port link (chapter 8): answering a frame, handing a response back, the grant of a port's request, and the events of a
port engine: SELECT_PERIOD_START, SELECT_PERIOD_END, REQUEST_PRESENTED, RESEND, BAD_FRAME, CHECK_FAIL and HELD. -/

namespace Sys2Proof.Machine

open Host (Outcome)

/-! ## Answering -/

/-- The engine shifts `a` out if the period is one it answers (SENDING); otherwise it is IDLE and nothing is shifted out (R149). -/
def Engine.send (e : Engine) (a : Answer) : Engine :=
  match e.period with
  | .active _ _ => { e with link := .sending, answer := some a }
  | _ => { e with link := .idle, answer := none }

/-- What is left of the period is FFh (R136, R154, R157, R164). The count of bytes received and the request being assembled are lost with it,
where R148 has them lost when the period ends and says nothing of a period that has turned FFh (DESIGN CHOICE, log 28). -/
def Engine.blankPeriod (e : Engine) : Engine :=
  match e.period with
  | .active _ _ => { e with period := .blank, answer := none, received := 0, assembled := [] }
  | _ => e

/-- A mute port's engine: no answer leaves it, its period is FFh to its end, and it is IDLE unless a request of its is in flight
(R136, R157). -/
def Engine.silence (e : Engine) : Engine :=
  let e' := e.blankPeriod
  if e.link = .inFlight then e' else { e' with link := .idle }

/-- Port `p`'s engine falls silent if the port is mute (R136, R157; DEDUCED, log 21). -/
def State.muteEngine (s : State) (p : Port) : State :=
  if s.mute p then s.setEngine p (s.engine p).silence else s

/-- Port `p`'s engine shifts `a` out, as `Engine.send`. -/
def State.send (s : State) (p : Port) (a : Answer) : State := s.setEngine p ((s.engine p).send a)

/-- An answer's effect on the standing unit (R129, R130, R143): the run is broken, the outcome scored, and a port that is then mute
falls silent; the standing unit presents the first request it then holds. -/
def State.settleOutcome (s : State) (p : Port) (st : Status) : State :=
  ((s.scoreOutcome p st).muteEngine p).presentHeld

/-- The directory core hands a response back: it is placed in the hold, whatever the status, and shifted out if the period that sent the
request is still open; then the restore count and the score change (R130, R143, R149, R155). A refusal replaces the hold like any other
response, a NOT_OPEN that answers a second COMMIT included: R155 is followed where R46 ends otherwise (DESIGN CHOICE, log 25). -/
def State.handBack (s : State) (p : Port) (tag : Byte) (c : Command) (r : Reply) : State :=
  let s1 := s.setEngine p { s.engine p with request := none, hold := some { tag := tag, command := c, status := r.status, body := r.body } }
  let s2 := s1.send p { tag := tag, status := r.status, body := r.body, atCheck := false }
  let s3 := if c = .nop ∧ r.status = .ok then s2.extendRun p else s2.breakRun p
  s3.settleOutcome p r.status

/-- The arbiter grants port `p`'s presented request and the directory core carries `op` out whole, if that request is `r` and its turn has
come; otherwise nothing happens (R24 to R28; log 1). -/
def State.grantPort (s : State) (p : Port) (r : Request) (op : State → State × Reply) : Outcome State Fault Refusal :=
  match (s.engine p).request with
  | none => .next s
  | some pr =>
    if pr.request = r ∧ s.nextGrant = some (.port p) then
      let done := op (s.setGrant (.port p))
      .next (done.1.handBack p pr.tag r.command done.2)
    else .next s

/-! ## Frames -/

/-- The engine is receiving a frame: RECEIVING in an open period, on a port that is not mute, outside RESET (R149, R151, R158). -/
def State.receiving (s : State) (p : Port) : Bool :=
  (s.engine p).link == .receiving &&
  (match (s.engine p).period with
    | .active _ _ => true
    | _ => false) &&
  !s.mute p && s.supply.state != .reset

/-- The bytes of a frame have been received up to CHK (R148, R150; at the check byte: DEDUCED, logs 2 and 23). -/
def State.acceptBytes (s : State) (p : Port) (frame : List Byte) : State :=
  s.setEngine p { s.engine p with received := frameLength frame, assembled := keptBytes (frame.take (frameLength frame - 1)) }

/-- The engine answers a frame itself: the bytes are received, the answer leaves, the run of a RESTORING port is broken and the outcome
scored; the hold is left as it was (R130, R143, R151, R155, R158). -/
def State.answerFrame (s : State) (p : Port) (frame : List Byte) (a : Answer) (outcome : Status) : State :=
  (((s.acceptBytes p frame).send p a).breakRun p).settleOutcome p outcome

/-- BAD_FRAME: the check byte of a frame that fails a test of R151 other than the last. -/
def execBadFrame (p : Port) (frame : List Byte) (s : State) : Outcome State Fault Refusal :=
  match checkFrame frame with
  | .badFrame tag =>
    if s.receiving p then .next (s.answerFrame p frame { tag := tag, status := .badFrame, body := [], atCheck := true } .badFrame) else .next s
  | _ => .next s

/-- CHECK_FAIL: the check byte of a frame that fails the last test of R151. -/
def execCheckFail (p : Port) (frame : List Byte) (s : State) : Outcome State Fault Refusal :=
  match checkFrame frame with
  | .checkFail tag =>
    if s.receiving p then .next (s.answerFrame p frame { tag := tag, status := .checkFail, body := [], atCheck := true } .checkFail) else .next s
  | _ => .next s

/-- HELD: the check byte of a well-formed frame, RESEND included, while the supply state is SETTLING or FROZEN (R152, R158). -/
def execHeld (p : Port) (frame : List Byte) (s : State) : Outcome State Fault Refusal :=
  match checkFrame frame with
  | .good tag _ =>
    if s.receiving p ∧ s.supply.state ≠ .running then
      .next (s.answerFrame p frame { tag := tag, status := .held, body := [], atCheck := true } .held)
    else .next s
  | _ => .next s

/-- The answer to RESEND: the held response, or NO_HELD with what the hold holds (R156, R179); so also for the tag of a first COMMIT once the
answer to a second one has replaced it in the hold (R155 over the end of R46 and R104's use of it: DESIGN CHOICE, log 25). -/
def resendAnswer (hold : Option Response) (tag named : Byte) : Answer :=
  match hold with
  | none => { tag := tag, status := .noHeld, body := [0, 0, 0], atCheck := true }
  | some h =>
    if h.tag = named then { tag := h.tag, status := h.status, body := h.body, atCheck := true }
    else { tag := tag, status := .noHeld, body := [1, h.tag, commandCode h.command], atCheck := true }

/-- RESEND: the check byte of a RESEND frame while the supply state is RUNNING; its answer is not scored, whatever its status (R129,
R156). -/
def execResend (p : Port) (frame : List Byte) (s : State) : Outcome State Fault Refusal :=
  match checkFrame frame with
  | .good tag (.resend named) =>
    if s.receiving p ∧ s.supply.state = .running then
      .next (s.answerFrame p frame (resendAnswer (s.engine p).hold tag named) .noHeld)
    else .next s
  | _ => .next s

/-- REQUEST_PRESENTED: the check byte of any other well-formed frame while the supply state is RUNNING (R149, R152). -/
def execRequestPresented (p : Port) (frame : List Byte) (s : State) : Outcome State Fault Refusal :=
  match checkFrame frame with
  | .good tag r =>
    if s.receiving p ∧ s.supply.state = .running ∧ r.command ≠ .resend then
      let s1 := s.acceptBytes p frame
      .next (s1.setEngine p { s1.engine p with link := .inFlight, request := some { tag := tag, request := r } })
    else .next s
  | _ => .next s

/-! ## Select periods -/

/-- SELECT_PERIOD_START: SEL falls. The period is FFh throughout in RESET, on a mute port and while a request is in flight; otherwise the
engine is RECEIVING and the header bytes are those of this moment (R149, R153, R154, R157, R158). -/
def execSelectPeriodStart (p : Port) (s : State) : Outcome State Fault Refusal :=
  let e := s.engine p
  match e.period with
  | .high =>
    if s.supply.state = .reset ∨ s.mute p ∨ e.link = .inFlight then .next (s.setEngine p { e with period := .blank })
    else
      .next (s.setEngine p { e with link := .receiving, answer := none, received := 0, assembled := [],
                                    period := .active (s.statusByte p) (BitVec.ofNat 8 (s.queue p).length) })
  | _ => .next s

/-- SELECT_PERIOD_END: SEL rises. The count of bytes and the frame being assembled are lost and an unsent answer is abandoned; the engine
is IDLE unless a request is in flight (R148, R149, R154). -/
def execSelectPeriodEnd (p : Port) (s : State) : Outcome State Fault Refusal :=
  let e := s.engine p
  match e.period with
  | .high => .next s
  | _ => .next (s.setEngine p { e with period := .high, answer := none, received := 0, assembled := [],
                                       link := if e.link = .inFlight then .inFlight else .idle })

end Sys2Proof.Machine
end

