-- ==== Sys2Proof/Machine/Ownership.lean ====
section
/-! DEFINITION. Retirement, ownership and slot reuse (chapter 6): RETIRE, FLUSH and REASSIGN. -/

namespace Sys2Proof.Machine

open Host (Outcome)

/-- Steps 2 to 6 of R111 on the point in slot `i`: deadline and flags cleared, state RETIRING, both buffers returned to the value store. -/
def State.retirePoint (s : State) (i : Slot) : State :=
  match s.point i with
  | none => s
  | some pt =>
    ((s.setPoint i (some { pt with refreshPending := false, orphaned := false, state := .retiring, committed := [],
                                   pendingBuf := [] })).setFreeGranules (s.dir.freeGranules + pt.granules)).disarm i .fresh

/-- Step 8 of R111: a slot whose reference count is 0 once RETIRED has been offered becomes FREE (R20). -/
def State.freeIfUnnamed (s : State) (i : Slot) : State :=
  match s.point i with
  | none => s
  | some pt => if pt.refs = 0 then s.freeSlot i else s

/-- The RETIRE answer: the state the operation left the slot in, 00h FREE or its code, and its reference count (R113, R179). -/
def retireBody (s : State) (i : Slot) : List Byte :=
  match s.point i with
  | none => [0x00, 0x00]
  | some pt => [pt.state.code, BitVec.ofNat 8 pt.refs]

/-- A taken RETIRE: the refusals of R110, then the eight steps of R111. -/
def retireOp (p : Port) (i : Slot) (s : State) : State × Reply :=
  if s.limited p then (s, .refuse .restricted)
  else
    match s.point i with
    | none => (s, .refuse .noSlot)
    | some pt =>
      if pt.owner ≠ p ∧ p ≠ s.supervisor then (s, .refuse .notOwner)
      else if pt.state = .retiring then (s, .refuse .retiring)
      else
        let t := (((s.closeUpdate i).retirePoint i).routeRetired i).freeIfUnnamed i
        (t, .ok (retireBody t i))

/-- A taken FLUSH: the refusals of R118, then the effects of R119. -/
def flushOp (p : Port) (target : Byte) (s : State) : State × Reply :=
  if p ≠ s.supervisor then (s, .refuse .notSupervisor)
  else
    match portOf target with
    | none => (s, .refuse .range)
    | some q =>
      let t := s.flushQueue q
      (t, .ok [BitVec.ofNat 8 (s.queue q).length, BitVec.ofNat 8 (t.freeSlots - s.freeSlots)])

/-- Steps 2 and 3 of R124: the owner is replaced and the orphaned flag cleared. -/
def State.giveTo (s : State) (i : Slot) (q : Port) : State :=
  match s.point i with
  | none => s
  | some pt => s.setPoint i (some { pt with owner := q, orphaned := false })

/-- Step 4 of R124: with refresh pending, REFRESH is offered to the owner, and the flag stays set. -/
def State.remindOwner (s : State) (i : Slot) : State :=
  match s.point i with
  | none => s
  | some pt => if pt.refreshPending then s.offer pt.owner (.refresh i pt.key false) else s

/-- A taken REASSIGN: the refusals of R123, then the five steps of R124. -/
def reassignOp (p : Port) (i : Slot) (target : Byte) (s : State) : State × Reply :=
  if p ≠ s.supervisor then (s, .refuse .notSupervisor)
  else
    match portOf target with
    | none => (s, .refuse .range)
    | some q =>
      match s.point i with
      | none => (s, .refuse .noSlot)
      | some pt =>
        if pt.state = .retiring then (s, .refuse .retiring)
        else if s.badTarget q then (s, .refuse .badTarget)
        else ((((s.expireUpdate i).giveTo i q).remindOwner i).routeOwner (some q) i, .ok [portByte pt.owner])

/-- RETIRE. -/
def execRetire (p : Port) (i : Slot) (s : State) : Outcome State Fault Refusal := s.grantPort p (.retire i) (retireOp p i)

/-- FLUSH. -/
def execFlush (p : Port) (target : Byte) (s : State) : Outcome State Fault Refusal := s.grantPort p (.flush target) (flushOp p target)

/-- REASSIGN. -/
def execReassign (p : Port) (i : Slot) (target : Byte) (s : State) : Outcome State Fault Refusal :=
  s.grantPort p (.reassign i target) (reassignOp p i target)

end Sys2Proof.Machine
end

