-- ==== Sys2Proof/Machine/Publishing.lean ====
section
/-! DEFINITION. CREATE (chapter 1) and the publishing commands OPEN, WRITE, COMMIT, DISCARD, PUT and REFRESH (chapter 2). -/

namespace Sys2Proof.Machine

open Host (Outcome)

/-- The record CREATE fills a slot with (R16, R23). -/
def newPoint (p : Port) (key : Key) (width : Nat) (readers : PortSet) (fresh : BitVec 16) : Point :=
  { state := .vacant, key := key, owner := p, width := width, readers := readers, fresh := fresh, version := 0,
    committed := List.replicate width 0, pendingBuf := List.replicate width 0, updateOpen := false, refreshPending := false,
    orphaned := false, refs := 0 }

/-- A taken CREATE: the refusals of R22 in order, then the effects of R23. -/
def createOp (p : Port) (key : Key) (width : Byte) (readers : PortSet) (fresh : BitVec 16) (s : State) : State × Reply :=
  if s.limited p then (s, .refuse .restricted)
  else if width.toNat = 0 ∨ width.toNat > Config.maxWidth then (s, .refuse .range)
  else if (s.lookupKey key).isSome then (s, .refuse .keyInUse)
  else
    match s.lowestFree with
    | none => (s, .refuse .tableFull)
    | some i =>
      if s.dir.freeGranules < 2 * granulesFor width.toNat then (s, .refuse .storeFull)
      else
        (((s.setPoint i (some (newPoint p key width.toNat readers fresh))).setIndex (indexInsert key i s.dir.index)).setFreeGranules
            (s.dir.freeGranules - 2 * granulesFor width.toNat),
          .ok [slotByte i])

/-- A taken OPEN: the refusals of R34, then the effects of R35. -/
def openOp (p : Port) (i : Slot) (s : State) : State × Reply :=
  if s.limited p then (s, .refuse .restricted)
  else
    match s.point i with
    | none => (s, .refuse .noSlot)
    | some pt =>
      if pt.owner ≠ p then (s, .refuse .notOwner)
      else if pt.state = .retiring then (s, .refuse .retiring)
      else if pt.updateOpen then (s, .refuse .busy)
      else if s.openUpdates p ≥ Config.maxOpenUpdates then (s, .refuse .tooMany)
      else
        (((s.setPoint i (some { pt with pendingBuf := pt.committed, updateOpen := true })).setOpenUpdates p (s.openUpdates p + 1)).arm
            i .hold s.timer.holdlim,
          .ok (bytes2 pt.version))

/-- A taken WRITE: the refusals of R36, then the effect of R37. -/
def writeOp (p : Port) (i : Slot) (offset : Byte) (data : List Byte) (s : State) : State × Reply :=
  if s.limited p then (s, .refuse .restricted)
  else
    match s.point i with
    | none => (s, .refuse .noSlot)
    | some pt =>
      if pt.owner ≠ p then (s, .refuse .notOwner)
      else if pt.state = .retiring then (s, .refuse .retiring)
      else if !pt.updateOpen then (s, .refuse .notOpen)
      else if offset.toNat + data.length > pt.width then (s, .refuse .range)
      else (s.setPoint i (some { pt with pendingBuf := splice pt.pendingBuf offset.toNat data }), .ok [])

/-- A taken COMMIT: the refusals of R38, then the effects of R39. -/
def commitOp (p : Port) (i : Slot) (s : State) : State × Reply :=
  if s.limited p then (s, .refuse .restricted)
  else
    match s.point i with
    | none => (s, .refuse .noSlot)
    | some pt =>
      if pt.owner ≠ p then (s, .refuse .notOwner)
      else if pt.state = .retiring then (s, .refuse .retiring)
      else if !pt.updateOpen then (s, .refuse .notOpen)
      else ((s.closeUpdate i).publish i, .ok (bytes2 (nextVersion pt.version)))

/-- A taken DISCARD: the refusals of R40, then the effects of R41. It is not limited by standing, and is carried out for a RESTORING port as for
one in good standing (R40, R133, R145): the RESTORING owner of an orphaned point, whose update the sever closed, is answered NOT_OPEN. The
RESTRICTED that R122 gives its publishing frames is taken to be that of the commands R133 limits (DESIGN CHOICE, log 26). -/
def discardOp (p : Port) (i : Slot) (s : State) : State × Reply :=
  match s.point i with
  | none => (s, .refuse .noSlot)
  | some pt =>
    if pt.owner ≠ p then (s, .refuse .notOwner)
    else if pt.state = .retiring then (s, .refuse .retiring)
    else if !pt.updateOpen then (s, .refuse .notOpen)
    else (s.closeUpdate i, .ok [])

/-- A taken PUT: the refusals of R42, then the effects of R43. -/
def putOp (p : Port) (i : Slot) (offset : Byte) (data : List Byte) (s : State) : State × Reply :=
  if s.limited p then (s, .refuse .restricted)
  else
    match s.point i with
    | none => (s, .refuse .noSlot)
    | some pt =>
      if pt.owner ≠ p then (s, .refuse .notOwner)
      else if pt.state = .retiring then (s, .refuse .retiring)
      else if pt.updateOpen then (s, .refuse .busy)
      else if offset.toNat + data.length > pt.width then (s, .refuse .range)
      else
        ((s.setPoint i (some { pt with pendingBuf := splice pt.committed offset.toNat data })).publish i,
          .ok (bytes2 (nextVersion pt.version)))

/-- A taken REFRESH: the refusals of R48, then the effects of R49. -/
def refreshOp (p : Port) (i : Slot) (s : State) : State × Reply :=
  if s.limited p then (s, .refuse .restricted)
  else
    match s.point i with
    | none => (s, .refuse .noSlot)
    | some pt =>
      if !pt.isReader p then (s, .refuse .guarded)
      else if pt.state = .retiring then (s, .refuse .retiring)
      else if pt.orphaned then (s, .refuse .orphaned)
      else if pt.refreshPending then (s, .ok [0x02])
      else
        ((s.setPoint i (some { pt with refreshPending := true })).offer pt.owner (.refresh i pt.key false), .ok [0x01])

/-- CREATE. -/
def execCreate (p : Port) (key : Key) (width : Byte) (readers : PortSet) (fresh : BitVec 16) (s : State) :
    Outcome State Fault Refusal :=
  s.grantPort p (.create key width readers fresh) (createOp p key width readers fresh)

/-- OPEN. -/
def execOpenUpdate (p : Port) (i : Slot) (s : State) : Outcome State Fault Refusal := s.grantPort p (.openUpdate i) (openOp p i)

/-- WRITE. -/
def execWrite (p : Port) (i : Slot) (offset : Byte) (data : List Byte) (s : State) : Outcome State Fault Refusal :=
  s.grantPort p (.write i offset data) (writeOp p i offset data)

/-- COMMIT. -/
def execCommit (p : Port) (i : Slot) (s : State) : Outcome State Fault Refusal := s.grantPort p (.commit i) (commitOp p i)

/-- DISCARD. -/
def execDiscard (p : Port) (i : Slot) (s : State) : Outcome State Fault Refusal := s.grantPort p (.discard i) (discardOp p i)

/-- PUT. -/
def execPut (p : Port) (i : Slot) (offset : Byte) (data : List Byte) (s : State) : Outcome State Fault Refusal :=
  s.grantPort p (.put i offset data) (putOp p i offset data)

/-- REFRESH. -/
def execRefresh (p : Port) (i : Slot) (s : State) : Outcome State Fault Refusal := s.grantPort p (.refresh i) (refreshOp p i)

end Sys2Proof.Machine
end

