-- ==== Sys2Proof/Machine/Reading.lean ====
section
/-! DEFINITION. The commands that read: NOP, STATUS, ATTEND (R88, R159, R160), FIND, READ and SCAN (chapter 3). -/

namespace Sys2Proof.Machine

open Host (Outcome)

/-- A taken NOP is answered OK and changes nothing in the directory (R159). -/
def nopOp (s : State) : State × Reply := (s, .ok [])

/-- The STATUS body (R160, R179). -/
def statusBody (p : Port) (s : State) : List Byte :=
  [(s.record p).standing.code, BitVec.ofNat 8 (s.record p).score, BitVec.ofNat 8 (s.queue p).length, bit (s.engine p).attention,
   BitVec.ofNat 8 (s.openUpdates p)] ++
  natBytes2 s.freeSlots ++ natBytes2 s.dir.freeGranules ++ bytes2 (s.timer.tick.extractLsb' 0 16) ++ [s.supply.state.code]

/-- A taken STATUS reports the asking port's values and the counts of the directory (R160). -/
def statusOp (p : Port) (s : State) : State × Reply := (s, .ok (statusBody p s))

/-- A taken ATTEND sets the asking port's attention enable (R88). -/
def attendOp (p : Port) (on : Bool) (s : State) : State × Reply := (s.setEngine p { s.engine p with attention := on }, .ok [])

/-- A taken FIND reports the record, or is answered NO_KEY or NO_SLOT (R56, R57). -/
def findOp (p : Port) (target : FindBy) (s : State) : State × Reply :=
  match target with
  | .key k =>
    match s.lookupKey k with
    | none => (s, .refuse .noKey)
    | some i =>
      match s.point i with
      | none => (s, .refuse .noKey)
      | some pt => (s, .ok (findRecord i pt p))
  | .slot i =>
    match s.point i with
    | none => (s, .refuse .noSlot)
    | some pt => (s, .ok (findRecord i pt p))

/-- A taken READ returns version, state flag and bytes of the committed buffer, after the refusals of R52 (R53, R54). -/
def readOp (p : Port) (i : Slot) (offset length : Byte) (s : State) : State × Reply :=
  match s.point i with
  | none => (s, .refuse .noSlot)
  | some pt =>
    if !pt.isReader p then (s, .refuse .guarded)
    else if pt.state = .retiring then (s, .refuse .retiring)
    else if pt.state = .vacant then (s, .refuse .noValue)
    else if length.toNat = 0 ∨ length.toNat > Config.maxTransfer ∨ offset.toNat + length.toNat > pt.width then (s, .refuse .range)
    else (s, .ok (bytes2 pt.version ++ [pt.state.code] ++ (pt.committed.drop offset.toNat).take length.toNat))

/-- The SCAN entries of index entries, for the asking port (R61). -/
def scanEntries (p : Port) (s : State) (l : List (Key × Slot)) : List Byte :=
  l.flatMap fun e => match s.point e.2 with
    | none => []
    | some pt => scanEntry e.1 e.2 pt p

/-- A taken SCAN reports up to `count` entries of the ordered walk and whether the walk goes on (R59 to R62). -/
def scanOp (p : Port) (key mask : Key) (after : Option Key) (count : BitVec 3) (s : State) : State × Reply :=
  if count.toNat = 0 ∨ count.toNat > Config.maxEntries then (s, .refuse .range)
  else
    let found := walkIndex s.dir.index key mask after
    let shown := found.take count.toNat
    (s, .ok ([BitVec.ofNat 8 shown.length, bit (decide (shown.length < found.length))] ++ scanEntries p s shown))

/-- NOP. -/
def execNop (p : Port) (s : State) : Outcome State Fault Refusal := s.grantPort p .nop nopOp

/-- STATUS. -/
def execStatus (p : Port) (s : State) : Outcome State Fault Refusal := s.grantPort p .status (statusOp p)

/-- ATTEND. -/
def execAttend (p : Port) (on : Bool) (s : State) : Outcome State Fault Refusal := s.grantPort p (.attend on) (attendOp p on)

/-- FIND. -/
def execFind (p : Port) (target : FindBy) (s : State) : Outcome State Fault Refusal :=
  s.grantPort p (.find target) (findOp p target)

/-- READ. -/
def execRead (p : Port) (i : Slot) (offset length : Byte) (s : State) : Outcome State Fault Refusal :=
  s.grantPort p (.read i offset length) (readOp p i offset length)

/-- SCAN. -/
def execScan (p : Port) (key mask : Key) (after : Option Key) (count : BitVec 3) (s : State) : Outcome State Fault Refusal :=
  s.grantPort p (.scan key mask after count) (scanOp p key mask after count)

end Sys2Proof.Machine
end

