-- ==== Sys2Proof/Machine/Supervision.lean ====
section
/-! DEFINITION. Port standing and supervision (chapter 7): RESTORE and the three operations the standing unit raises, SEVER,
RESTORATION_COMPLETE and STANDING_CHANGE. -/

namespace Sys2Proof.Machine

open Host (Outcome)

/-- A taken RESTORE: the refusals of R142, then the target is RESTORING with restore count 0 and STANDING is offered. -/
def restoreOp (p : Port) (target : Byte) (s : State) : State × Reply :=
  if p ≠ s.supervisor then (s, .refuse .notSupervisor)
  else
    match portOf target with
    | none => (s, .refuse .range)
    | some q =>
      if (s.record q).standing ≠ .severed then (s, .refuse .badTarget)
      else
        (((s.setRecord q { s.record q with standing := .restoring }).setEngine q { s.engine q with restoreCount := 0 }).offerStanding
            q .restoring,
          .ok [])

/-- RESTORE. -/
def execRestore (p : Port) (target : Byte) (s : State) : Outcome State Fault Refusal :=
  s.grantPort p (.restore target) (restoreOp p target)

/-! ## The standing unit's operations -/

/-- The standing unit's presented request is granted if it is `r` and its turn has come: the rotation moves to `r`'s port, `op` is
carried out whole, and the unit presents the next request it holds (R25, R135). -/
def State.grantStanding (s : State) (r : StandingRequest) (p : Port) (op : State → State) : Outcome State Fault Refusal :=
  if s.standing.request = some r ∧ s.nextGrant = some .standing then
    .next (op (((s.setStandingRequest none).setLastPort p).setGrant .standing)).presentHeld
  else .next s

/-- Port `p`'s points in VACANT, LIVE or STALE, in ascending slot order (R138, R139). -/
def State.livingSlots (s : State) (p : Port) : List Slot :=
  allSlots.filter fun i => match s.point i with
    | none => false
    | some pt => pt.owner == p && pt.state != .retiring

/-- Port `p`'s points with an update open, in ascending slot order (R138, step 2). -/
def State.openSlots (s : State) (p : Port) : List Slot :=
  allSlots.filter fun i => match s.point i with
    | none => false
    | some pt => pt.owner == p && pt.updateOpen

/-- A severed port's update closes: flag cleared, HOLD entry removed; no EXPIRED (R138, step 2). -/
def State.dropUpdate (s : State) (i : Slot) : State :=
  match s.point i with
  | none => s
  | some pt => (s.setPoint i (some { pt with updateOpen := false })).disarm i .hold

/-- A severed port's point loses its refresh request and is orphaned (R138, step 3). -/
def State.orphan (s : State) (i : Slot) : State :=
  match s.point i with
  | none => s
  | some pt => s.setPoint i (some { pt with refreshPending := false, orphaned := true })

/-- Steps 5 and 6 of R138: every filter out of use, the hold emptied, attention off. -/
def State.clearPort (s : State) (p : Port) : State :=
  (s.setFilters p (Vector.replicate 8 Filter.unused)).setEngine p { s.engine p with hold := none, attention := false }

/-- The sever operation, in the order of R138. -/
def State.severPort (s : State) (p : Port) : State :=
  let s1 := s.setRecord p { s.record p with standing := .severed, severPending := false, reportPending := false }
  let s2 := ((s1.openSlots p).foldl State.dropUpdate s1).setOpenUpdates p 0
  let orphans := s2.livingSlots p
  let s3 := orphans.foldl State.orphan s2
  let s4 := (s3.flushQueue p).clearPort p
  (orphans.foldl (State.routeOwner none) s4).offerStanding p .severed

/-- SEVER. -/
def execSever (p : Port) (s : State) : Outcome State Fault Refusal := s.grantStanding (.sever p) p fun s => s.severPort p

/-- Port `p`'s orphaned points, in ascending slot order (R144, step 2). -/
def State.orphanSlots (s : State) (p : Port) : List Slot :=
  allSlots.filter fun i => match s.point i with
    | none => false
    | some pt => pt.owner == p && pt.orphaned

/-- A restored port's point is no longer orphaned, and OWNER with the port is offered to its watchers (R144, step 2). -/
def State.adopt (p : Port) (s : State) (i : Slot) : State :=
  match s.point i with
  | none => s
  | some pt => State.routeOwner (some p) (s.setPoint i (some { pt with orphaned := false })) i

/-- The completion of a restoration, in the order of R144. -/
def State.restorePort (s : State) (p : Port) : State :=
  let s1 := (s.setRecord p { s.record p with standing := .good, score := 0, reportPending := false }).setEngine p
    { s.engine p with restoreCount := 0 }
  ((s1.orphanSlots p).foldl (State.adopt p) s1).offerStanding p .good

/-- RESTORATION_COMPLETE. -/
def execRestorationComplete (p : Port) (s : State) : Outcome State Fault Refusal :=
  s.grantStanding (.restored p) p fun s => s.restorePort p

/-- A taken standing-change request: STANDING with the port's standing of this moment is offered to the supervisor port, and report pending
is cleared (R134). -/
def State.reportStanding (s : State) (p : Port) : State :=
  (s.setRecord p { s.record p with reportPending := false }).offerStanding p (s.record p).standing

/-- STANDING_CHANGE. -/
def execStandingChange (p : Port) (s : State) : Outcome State Fault Refusal :=
  s.grantStanding (.change p) p fun s => s.reportStanding p

end Sys2Proof.Machine
end

