-- ==== Sys2Proof/Machine/Supply.lean ====
section
/-! DEFINITION. Supply watch and start-up (chapter 9): the three resets, RESET_RELEASE, SETTLE_END, DROOP_FREEZE and DROOP_RECOVERY, and the
part's own clock on an empty queue. -/

namespace Sys2Proof.Machine

open Host (Outcome)

/-- An engine on entry to RESET: its reset values, with a select period under way answered FFh to its end (R148, R164). -/
def Engine.intoReset (e : Engine) : Engine :=
  { Engine.reset with period := match e.period with
      | .high => .high
      | _ => .blank }

/-- Every block takes its reset values, the supply state is RESET (R164) and the latched straps follow the strap inputs (R162, R177; the
inputs hold the levels last reported: log 7). The levels of the supply and of RESET_N are set by the three resets below. -/
def State.enterReset (s : State) : State :=
  { s with supply := { s.supply with state := .reset, settleTime := 0, sup := strapPort s.supply.supStraps,
                                     swm := strapAction s.supply.swmStrap }, dir := Directory.reset,
           notices := Vector.replicate 4 NoticePort.reset, timer := Timer.reset, standing := StandingUnit.reset,
           engines := s.engines.map Engine.intoReset, lastGrant := .standing }

/-- POWER_ON_RESET: the supply is below the valid level (R164); a droop in progress is now a power-on reset (R168, R171). -/
def execPowerOnReset (s : State) : Outcome State Fault Refusal :=
  let t := s.enterReset
  .next (t.setSupply { t.supply with vddValid := false, resetDroop := false, lowTime := 0, highTime := 0 })

/-- PIN_RESET: RESET_N is low (R164). -/
def execPinReset (s : State) : Outcome State Fault Refusal :=
  let t := s.enterReset
  .next (t.setSupply { t.supply with resetN := false })

/-- The supply watch detects a droop: the supply state is RUNNING or SETTLING (R167). -/
def State.droopDetected (s : State) : Bool := s.supply.state == .running || s.supply.state == .settling

/-- SUPPLY_RESET: a droop detected with SWM latched RESET (R171). -/
def execSupplyReset (s : State) : Outcome State Fault Refusal :=
  if s.droopDetected ∧ s.supply.swm = .reset then
    let t := s.enterReset
    .next (t.setSupply { t.supply with resetDroop := true, lowTime := Config.droopTime, highTime := 0 })
  else .next s

/-- RESET_RELEASE: in RESET, the supply is valid, RESET_N is high and no droop under SWM RESET is in progress any more; the straps are
latched from their levels and SETTLING begins (R165, R177). The command is the report that the three conditions hold (DEDUCED, log 24).
It also sets the low time to 0, taking the supply to stand at or above the watch threshold by then, and gives a supply reset's droop its
recovery in the high time; where no such droop is in progress, a pin reset out of FROZEN among them, it leaves the high time as it is (DESIGN
CHOICE, log 8). -/
def execResetRelease (sup : BitVec 2) (swm : Bool) (s : State) : Outcome State Fault Refusal :=
  if s.supply.state = .reset then
    .next (s.setSupply
      { state := .settling, sup := strapPort sup, swm := strapAction swm, supStraps := sup, swmStrap := swm,
        settleTime := 0, lowTime := 0,
        highTime := if s.supply.resetDroop then Config.droopTime else s.supply.highTime,
        vddValid := true, resetN := true, resetDroop := false })
  else .next s

/-- The settle time has reached 2 ms: the supply state is RUNNING (R166). -/
def State.settled (s : State) : State := s.setSupply { s.supply with state := .running, settleTime := 0 }

/-- SETTLE_END: the command is the report that the 2 ms have passed, whatever settle time the clock periods of the queue have counted (R166;
DEDUCED, log 27). -/
def execSettleEnd (s : State) : Outcome State Fault Refusal :=
  if s.supply.state = .settling then .next s.settled else .next s

/-- A port's presented request is withdrawn and answered HELD; no hold, no score; a RESTORING port's run is broken (R158, R169). -/
def State.withdraw (s : State) (p : Port) : State :=
  match (s.engine p).request with
  | none => s
  | some pr =>
    ((((s.setEngine p { s.engine p with request := none }).send p { tag := pr.tag, status := .held, body := [], atCheck := false }).breakRun p).muteEngine p)

/-- DROOP_FREEZE: a droop detected with SWM latched FREEZE. The supply state is FROZEN, presented port requests are withdrawn and all else
is kept (R169). -/
def execDroopFreeze (s : State) : Outcome State Fault Refusal :=
  if s.droopDetected ∧ s.supply.swm = .freeze then
    let s1 := s.setSupply { s.supply with state := .frozen, settleTime := 0, lowTime := Config.droopTime, highTime := 0 }
    .next (allPorts.foldl State.withdraw s1).presentHeld
  else .next s

/-- DROOP_RECOVERY: a droop under SWM latched FREEZE has recovered; SETTLING begins (R168, R170). -/
def execDroopRecovery (s : State) : Outcome State Fault Refusal :=
  if s.supply.state = .frozen then
    .next (s.setSupply { s.supply with state := .settling, settleTime := 0, lowTime := 0, highTime := Config.droopTime })
  else .next s

/-- One 100 microsecond period of the part's own clock, with no command waiting (R91, R162, R166; DESIGN CHOICE, log 3): in RUNNING the
sub-tick count advances, and with it the tick; in SETTLING the settle time advances, and with it the supply state. -/
def State.clockPeriod (s : State) : State :=
  match s.supply.state with
  | .running =>
    if s.timer.subTick + 1 ≥ s.timer.tickdiv.toNat + 1 then s.setTimer s.timer.advance
    else s.setTimer { s.timer with subTick := s.timer.subTick + 1 }
  | .settling =>
    if s.supply.settleTime + Config.clockPeriod ≥ Config.settleInterval then s.settled
    else s.setSupply { s.supply with settleTime := s.supply.settleTime + Config.clockPeriod }
  | .reset => s
  | .frozen => s

end Sys2Proof.Machine
end

