-- ==== Sys2Proof/Machine/Timebase.lean ====
section
/-! DEFINITION. Time base, freshness and update holds (chapter 5): TIMING, TICK, EXPIRY_REQUEST, FRESH_EXPIRY and HOLD_EXPIRY. -/

namespace Sys2Proof.Machine

open Host (Outcome)

/-- A taken TIMING: the refusals of R94, then TICKDIV and HOLDLIM take the new values and the sub-tick count returns to 0. -/
def timingOp (p : Port) (tickdiv : Byte) (holdlim : BitVec 16) (s : State) : State × Reply :=
  if p ≠ s.supervisor then (s, .refuse .notSupervisor)
  else if holdlim.toNat = 0 ∨ holdlim.toNat > Config.maxHoldlim then (s, .refuse .range)
  else (s.setTimer { s.timer with tickdiv := tickdiv, holdlim := holdlim.toNat, subTick := 0 }, .ok [])

/-- TIMING. -/
def execTiming (p : Port) (tickdiv : Byte) (holdlim : BitVec 16) (s : State) : Outcome State Fault Refusal :=
  s.grantPort p (.timing tickdiv holdlim) (timingOp p tickdiv holdlim)

/-- TICK: while the supply state is RUNNING the sub-tick count reaches TICKDIV + 1 and the tick counter advances (R91, R92; log 4). -/
def execTick (s : State) : Outcome State Fault Refusal :=
  if s.supply.state = .running then .next (s.setTimer s.timer.advance) else .next s

/-- EXPIRY_REQUEST: while the head of the deadline list is due and the timer unit has no request presented, it presents one for the head's
slot and kind (R99; DEDUCED, log 20). -/
def execExpiryRequest (s : State) : Outcome State Fault Refusal :=
  match s.timer.request, s.timer.deadlines with
  | none, d :: _ =>
    if d.due then .next (s.setTimer { s.timer with request := some (d.slot, d.kind) }) else .next s
  | _, _ => .next s

/-- The arbiter grants the timer unit's presented expiry request, if it is the one for slot `i` and kind `k` and its turn has come. An
expiry whose entry is absent or not yet due is dropped, and still uses the grant (R99, R100). -/
def State.grantTimer (s : State) (i : Slot) (k : DeadlineKind) (op : State → State) : Outcome State Fault Refusal :=
  if s.timer.request = some (i, k) ∧ s.nextGrant = some .timer then
    let s1 := (s.setTimer { s.timer with request := none }).setGrant .timer
    if s1.isDue i k then .next (op s1) else .next s1
  else .next s

/-- A FRESH expiry that is carried out: the point is STALE, the entry is removed, STALE is offered (R101). On a point that is not LIVE,
which R95 rules out, only the entry is removed (DESIGN CHOICE, log 18). -/
def State.expireFresh (s : State) (i : Slot) : State :=
  let s1 := s.disarm i .fresh
  match s1.point i with
  | none => s1
  | some pt => if pt.state = .live then (s1.setPoint i (some { pt with state := .stale })).routeStale i else s1

/-- A HOLD expiry that is carried out: the update is closed, the entry removed, the owner's count lowered, EXPIRED offered to the owner
(R102). -/
def State.expireHold (s : State) (i : Slot) : State := (s.disarm i .hold).expireUpdate i

/-- FRESH_EXPIRY. -/
def execFreshExpiry (i : Slot) (s : State) : Outcome State Fault Refusal := s.grantTimer i .fresh fun s => s.expireFresh i

/-- HOLD_EXPIRY. -/
def execHoldExpiry (i : Slot) (s : State) : Outcome State Fault Refusal := s.grantTimer i .hold fun s => s.expireHold i

end Sys2Proof.Machine
end

