-- ==== Sys2Proof/Machine/Watching.lean ====
section
/-! DEFINITION. Watch filters and notice queues (chapter 4): WATCH, UNWATCH and TAKE. -/

namespace Sys2Proof.Machine

open Host (Outcome)

/-- A taken WATCH: the refusals of R69, then the numbered filter is in use with the given fields. -/
def watchOp (p : Port) (filter : Byte) (key mask : Key) (kinds : KindSet) (s : State) : State × Reply :=
  if s.limited p then (s, .refuse .restricted)
  else
    match filterOf filter with
    | none => (s, .refuse .range)
    | some f =>
      (s.setFilters p ((s.filters p).set f.val { inUse := true, key := key, mask := mask, kinds := kinds } f.isLt), .ok [])

/-- A taken UNWATCH: the numbered filter is out of use with its fields reset (R70). -/
def unwatchOp (p : Port) (filter : Byte) (s : State) : State × Reply :=
  match filterOf filter with
  | none => (s, .refuse .range)
  | some f => (s.setFilters p ((s.filters p).set f.val Filter.unused f.isLt), .ok [])

/-- A taken TAKE: the oldest entries leave the queue and are returned, with the number left; the counts of the slots they name fall (R83
to R85). -/
def takeOp (p : Port) (count : Byte) (s : State) : State × Reply :=
  if count.toNat = 0 ∨ count.toNat > Config.maxEntries then (s, .refuse .range)
  else
    let gone := (s.queue p).take count.toNat
    let left := (s.queue p).drop count.toNat
    ((s.setQueue p left).releaseRefs gone,
      .ok ([BitVec.ofNat 8 gone.length, BitVec.ofNat 8 left.length] ++ gone.flatMap Notice.encode))

/-- WATCH. -/
def execWatch (p : Port) (filter : Byte) (key mask : Key) (kinds : KindSet) (s : State) : Outcome State Fault Refusal :=
  s.grantPort p (.watch filter key mask kinds) (watchOp p filter key mask kinds)

/-- UNWATCH. -/
def execUnwatch (p : Port) (filter : Byte) (s : State) : Outcome State Fault Refusal :=
  s.grantPort p (.unwatch filter) (unwatchOp p filter)

/-- TAKE. -/
def execTake (p : Port) (count : Byte) (s : State) : Outcome State Fault Refusal := s.grantPort p (.take count) (takeOp p count)

end Sys2Proof.Machine
end

