-- ==== Sys2Proof/Machine/Dispatch.lean ====
section
/-! DEFINITION. Each command to its meaning. -/

namespace Sys2Proof.Machine

def exec (i : Instr) (s : State) : Host.Outcome State Fault Refusal :=
  match i with
  | .nop p => Sys2Proof.Machine.execNop p s
  | .status p => Sys2Proof.Machine.execStatus p s
  | .attend p on => Sys2Proof.Machine.execAttend p on s
  | .resend p frame => Sys2Proof.Machine.execResend p frame s
  | .create p key width readers fresh => Sys2Proof.Machine.execCreate p key width readers fresh s
  | .find p target => Sys2Proof.Machine.execFind p target s
  | .read p slot offset length => Sys2Proof.Machine.execRead p slot offset length s
  | .scan p key mask after count => Sys2Proof.Machine.execScan p key mask after count s
  | .openUpdate p slot => Sys2Proof.Machine.execOpenUpdate p slot s
  | .write p slot offset data => Sys2Proof.Machine.execWrite p slot offset data s
  | .commit p slot => Sys2Proof.Machine.execCommit p slot s
  | .discard p slot => Sys2Proof.Machine.execDiscard p slot s
  | .put p slot offset data => Sys2Proof.Machine.execPut p slot offset data s
  | .refresh p slot => Sys2Proof.Machine.execRefresh p slot s
  | .retire p slot => Sys2Proof.Machine.execRetire p slot s
  | .watch p filter key mask kinds => Sys2Proof.Machine.execWatch p filter key mask kinds s
  | .unwatch p filter => Sys2Proof.Machine.execUnwatch p filter s
  | .take p count => Sys2Proof.Machine.execTake p count s
  | .restore p target => Sys2Proof.Machine.execRestore p target s
  | .flush p target => Sys2Proof.Machine.execFlush p target s
  | .reassign p slot target => Sys2Proof.Machine.execReassign p slot target s
  | .timing p tickdiv holdlim => Sys2Proof.Machine.execTiming p tickdiv holdlim s
  | .tick => Sys2Proof.Machine.execTick s
  | .expiryRequest => Sys2Proof.Machine.execExpiryRequest s
  | .freshExpiry slot => Sys2Proof.Machine.execFreshExpiry slot s
  | .holdExpiry slot => Sys2Proof.Machine.execHoldExpiry slot s
  | .sever p => Sys2Proof.Machine.execSever p s
  | .restorationComplete p => Sys2Proof.Machine.execRestorationComplete p s
  | .standingChange p => Sys2Proof.Machine.execStandingChange p s
  | .selectPeriodStart p => Sys2Proof.Machine.execSelectPeriodStart p s
  | .selectPeriodEnd p => Sys2Proof.Machine.execSelectPeriodEnd p s
  | .badFrame p frame => Sys2Proof.Machine.execBadFrame p frame s
  | .checkFail p frame => Sys2Proof.Machine.execCheckFail p frame s
  | .held p frame => Sys2Proof.Machine.execHeld p frame s
  | .powerOnReset => Sys2Proof.Machine.execPowerOnReset s
  | .pinReset => Sys2Proof.Machine.execPinReset s
  | .resetRelease sup swm => Sys2Proof.Machine.execResetRelease sup swm s
  | .settleEnd => Sys2Proof.Machine.execSettleEnd s
  | .droopFreeze => Sys2Proof.Machine.execDroopFreeze s
  | .supplyReset => Sys2Proof.Machine.execSupplyReset s
  | .droopRecovery => Sys2Proof.Machine.execDroopRecovery s
  | .requestPresented p frame => Sys2Proof.Machine.execRequestPresented p frame s

end Sys2Proof.Machine
end

