-- ==== Sys2Proof/Safety.lean ====
section
/-! DEFINITION. What a sound state of the part is: the laws the manual states of its structures at every moment, one predicate for each
structure; and the short names the statements use. -/

namespace Sys2Proof.Machine

/-! ## The laws of the structures -/

/-- Granules held by the point in slot `i` (R2, R15). -/
def State.heldBy (s : State) (i : Slot) : Nat :=
  match s.point i with
  | none => 0
  | some pt => pt.granules

/-- The free-granule count plus the granules of every point equals 1024 (R15). -/
def StoreAccounted (s : State) : Prop :=
  s.dir.freeGranules + (allSlots.map s.heldBy).sum = Config.granules

/-- The key index holds exactly one entry for each slot that is not FREE, under that point's key, and its keys strictly rise (R10, R11). -/
def IndexExact (s : State) : Prop :=
  (s.dir.index.Pairwise fun a b => a.1 < b.1) ∧
  (∀ e ∈ s.dir.index, ∃ pt ∈ s.point e.2, pt.key = e.1) ∧
  (∀ i, ∀ pt ∈ s.point i, (pt.key, i) ∈ s.dir.index)

/-- Entries across the four queues that name slot `i` (R18). -/
def State.namings (s : State) (i : Slot) : Nat :=
  (allPorts.map fun p => (s.queue p).countP fun n => n.slot? == some i).sum

/-- Each reference count is the number of queued notices that name the slot; none names a FREE slot and no slot is RETIRING with a count
of 0 (R18). -/
def RefsExact (s : State) : Prop :=
  ∀ i, match s.point i with
    | none => s.namings i = 0
    | some pt => pt.refs = s.namings i ∧ (pt.state = .retiring → pt.refs ≠ 0)

/-- Points owned by `p` that have an update open (R21). -/
def State.openOwned (s : State) (p : Port) : Nat :=
  allSlots.countP fun i => match s.point i with
    | none => false
    | some pt => pt.owner == p && pt.updateOpen

/-- A port's open-update count is the number of its points that have an update open, at most 4; a RETIRING point has none (R7, R21, R33). -/
def UpdatesCounted (s : State) : Prop :=
  (∀ p, s.openUpdates p = s.openOwned p ∧ s.openUpdates p ≤ Config.maxOpenUpdates) ∧
  (∀ i, ∀ pt ∈ s.point i, pt.state = .retiring → pt.updateOpen = false)

/-- What R2, R4 and R31 say of one record: width, buffers, version and flags as its state allows. -/
def Point.sound (pt : Point) : Prop :=
  1 ≤ pt.width ∧ pt.width ≤ Config.maxWidth ∧
  match pt.state with
  | .vacant => pt.version = 0 ∧ pt.committed = List.replicate pt.width 0 ∧ pt.pendingBuf.length = pt.width
  | .live => pt.version ≠ 0 ∧ pt.committed.length = pt.width ∧ pt.pendingBuf.length = pt.width
  | .stale => pt.version ≠ 0 ∧ pt.committed.length = pt.width ∧ pt.pendingBuf.length = pt.width
  | .retiring => pt.committed = [] ∧ pt.pendingBuf = [] ∧ pt.updateOpen = false ∧ pt.refreshPending = false ∧ pt.orphaned = false

/-- Every record is as R2 allows. -/
def RecordsSound (s : State) : Prop := ∀ i, ∀ pt ∈ s.point i, pt.sound

/-- The slot has an entry of the kind in the deadline list. -/
def State.armed (s : State) (i : Slot) (k : DeadlineKind) : Prop := ∃ d ∈ s.timer.deadlines, d.slot = i ∧ d.kind = k

/-- A FRESH entry stands exactly for a LIVE point with a freshness interval, a HOLD entry exactly for a point with an update open, none
twice (R95); a RETIRING point has no update open (R7). -/
def DeadlinesExact (s : State) : Prop :=
  (s.timer.deadlines.Pairwise fun a b => ¬(a.slot = b.slot ∧ a.kind = b.kind)) ∧
  (∀ i, s.armed i .fresh ↔ ∃ pt ∈ s.point i, pt.state = .live ∧ pt.fresh ≠ 0) ∧
  (∀ i, s.armed i .hold ↔ ∃ pt ∈ s.point i, pt.updateOpen = true) ∧
  (∀ i, ∀ pt ∈ s.point i, pt.state = .retiring → pt.updateOpen = false)

/-- The deadline list is in the order of R96 as far as one moment shows it: due entries ahead of the others, those not yet due by distance,
slot and kind, none more than 65,535 ticks ahead; HOLDLIM and the sub-tick count are in range (R91, R93). `DueInOrder` says the rest. -/
def TimerSound (s : State) : Prop :=
  (s.timer.deadlines.Pairwise fun a b => a.due = false → b.due = false) ∧
  (s.timer.deadlines.Pairwise fun a b => a.due = false → b.due = false → b.ahead s.timer.tick a = false) ∧
  (∀ d ∈ s.timer.deadlines, d.due = false → 1 ≤ d.distance s.timer.tick ∧ d.distance s.timer.tick ≤ 65535) ∧
  1 ≤ s.timer.holdlim ∧ s.timer.holdlim ≤ Config.maxHoldlim ∧ s.timer.subTick ≤ s.timer.tickdiv.toNat

/-- What a step does to the due entries, so that they stand in the order in which their due ticks were reached, and those of one tick in
ascending slot order with HOLD before FRESH (R96): the ones that were due and are left keep their order, and those that fall due join behind
them, in that order. -/
def DueInOrder (s t : State) : Prop :=
  ∃ old new, (t.timer.deadlines.filter fun d => d.due) = old ++ new ∧ old.Sublist (s.timer.deadlines.filter fun d => d.due) ∧
    (∀ d ∈ new, d.dueTick = t.timer.tick ∧ { d with due := false } ∈ s.timer.deadlines) ∧
    new.Pairwise fun a b => a.slot < b.slot ∨ (a.slot = b.slot ∧ (a.kind = .hold ∨ b.kind = .fresh))

/-- What R77 and R78 say of one queue: at most sixteen entries, the sixteenth a GAP, no two GAPs next to each other, no two entries of one
kind naming one slot or port. -/
def QueueSound (q : List Notice) : Prop :=
  q.length ≤ Config.queueDepth ∧ (q.length = Config.queueDepth → q.getLast? = some .gap) ∧
  (q.IsChain fun a b => ¬(a = .gap ∧ b = .gap)) ∧ (q.Pairwise fun a b => a.absorb b = none)

/-- Every queue is as R77 and R78 allow. -/
def QueuesSound (s : State) : Prop := ∀ p, QueueSound (s.queue p)

/-- What R128 to R132 say of one port: the standing its score gives, or SEVERED or RESTORING with score 255; 255 with sever pending until
the sever is taken; the supervisor port below 255 and never severed. -/
def StandingRec.sound (isSup : Bool) (r : StandingRec) : Prop :=
  r.score ≤ 255 ∧
  (r.severPending = true → r.score = 255 ∧ r.standing = .restricted) ∧
  ((r.standing = .severed ∨ r.standing = .restoring) → r.score = 255 ∧ r.severPending = false) ∧
  ((r.standing ≠ .severed ∧ r.standing ≠ .restoring) → r.standing = Standing.ofScore r.score ∧ (r.score = 255 → r.severPending = true)) ∧
  (isSup = true → r.score ≤ 254)

/-- Every port's score and standing agree; what the standing unit presents is what it still holds (a sever pending, a RESTORING port's count
of 32, a report pending), and it presents nothing only while it holds nothing; in RESET all of it is at its reset values (R128 to R136, R143,
R146; logs 10 and 11). -/
def StandingSound (s : State) : Prop :=
  (∀ p, (s.record p).sound (p == s.supervisor)) ∧
  (∀ p, s.standing.request = some (.sever p) → (s.record p).severPending = true) ∧
  (∀ p, s.standing.request = some (.restored p) → (s.record p).standing = .restoring ∧ (s.engine p).restoreCount = 32) ∧
  (∀ p, s.standing.request = some (.change p) → (s.record p).reportPending = true) ∧
  (s.standing.request = none → s.heldRequest = none) ∧
  (s.supply.state = .reset → s.standing = StandingUnit.reset)

/-- What R148, R149, R153 and R157 say of one engine. -/
def Engine.sound (e : Engine) (mute : Bool) : Prop :=
  (e.link = .inFlight ↔ e.request.isSome) ∧
  (e.link = .sending ↔ e.answer.isSome) ∧
  (e.link = .receiving ∨ e.link = .sending → ∃ st n, e.period = .active st n) ∧
  (mute = true → e.period = .high ∨ e.period = .blank) ∧
  (∀ r ∈ e.request, r.request.command ≠ .resend) ∧
  (∀ h ∈ e.hold, h.body.length ≤ 34) ∧
  e.restoreCount ≤ Config.restoreRun

/-- Every engine is in a place R149 gives it; requests are presented in RUNNING alone, a severed port has none, and in RESET every engine is
at its reset values but for the level of SEL (R141, R149, R152, R158, R164). -/
def LinkSound (s : State) : Prop :=
  (∀ p, (s.engine p).sound (s.mute p)) ∧
  (∀ p, (s.engine p).request.isSome → s.supply.state = .running ∧ (s.record p).standing ≠ .severed) ∧
  (∀ p, s.standing.request = some (.sever p) → (s.record p).severPending = true ∧ (s.engine p).request = none) ∧
  (s.supply.state = .reset → ∀ p, ∃ pd, s.engine p = { Engine.reset with period := pd } ∧ (pd = .high ∨ pd = .blank))

/-- A point is orphaned exactly when it is not RETIRING and its owner stands SEVERED or RESTORING; it then has no update open and no refresh
pending (R33, R47, R121). -/
def OrphansExact (s : State) : Prop :=
  ∀ i, ∀ pt ∈ s.point i,
    (pt.orphaned = true ↔ pt.state ≠ .retiring ∧
      ((s.record pt.owner).standing = .severed ∨ (s.record pt.owner).standing = .restoring)) ∧
    (pt.orphaned = true → pt.updateOpen = false ∧ pt.refreshPending = false)

/-! ## Names for what operations do to queues and slots -/

/-- What routing an event of kind `k` on point `pt` does to port `q`'s queue: the queue after it, and whether a notice was appended (R73,
R77, R78); `mk f` is the notice by filter `f`. -/
def State.delivery (s : State) (pt : Point) (k : WatchKind) (mk : FilterNo → Notice) (q : Port) : List Notice × Bool :=
  match s.routeFilter pt k q with
  | none => (s.queue q, false)
  | some f => offerQueue (s.queue q) (mk f)

/-- The ports whose queue an event's notice is appended to (R19, R78). -/
def State.deliveries (s : State) (pt : Point) (k : WatchKind) (mk : FilterNo → Notice) : Nat :=
  allPorts.countP fun q => (s.delivery pt k mk q).2

/-- What offering `n` to port `p` does to port `q`'s queue: nothing to another port's or a mute port's (R76 to R78). -/
def State.offered (s : State) (p : Port) (n : Notice) (q : Port) : List Notice × Bool :=
  if q = p ∧ s.mute p = false then offerQueue (s.queue q) n else (s.queue q, false)

/-- Notices offered one after another to one queue: the queue after them and how many were appended (R79). -/
def offerMany (q : List Notice) : List Notice → List Notice × Nat
  | [] => (q, 0)
  | n :: ns =>
    let r := offerQueue q n
    let t := offerMany r.1 ns
    (t.1, t.2 + (if r.2 then 1 else 0))

/-- Entries of `ns` that name slot `i`. -/
def namedIn (ns : List Notice) (i : Slot) : Nat := ns.countP fun n => n.slot? == some i

/-- A slot after entries have left a queue, `k` of them naming it: its count falls by `k`, and a RETIRING slot whose count reaches 0 is FREE
(R19, R20). -/
def drained (x : Option Point) (k : Nat) : Option Point :=
  x.bind fun pt => if pt.state = .retiring ∧ 0 < k ∧ pt.refs ≤ k then none else some { pt with refs := pt.refs - k }

/-- The index has lost the entries of exactly the slots that became FREE (R12, R20). -/
def IndexDrained (s t : State) : Prop :=
  ∀ e, e ∈ t.dir.index ↔ e ∈ s.dir.index ∧ ¬((s.point e.2).isSome ∧ (t.point e.2).isNone)

/-- Slots that became FREE (R119). -/
def State.freedIn (s t : State) : Nat := allSlots.countP fun i => (s.point i).isSome && (t.point i).isNone

/-- The deadline list once a commit at this moment has armed the point's FRESH entry, if it has an interval (R39, R97). -/
def State.freshArmed (s : State) (i : Slot) (pt : Point) (l : List Deadline) : List Deadline :=
  if pt.fresh = 0 then l
  else insertDeadline s.timer.tick { slot := i, kind := .fresh, dueTick := s.timer.tick + pt.fresh.setWidth 32, due := false } l

/-- A point once a commit has made `value` its committed value, the former one left in the pending buffer (R31, R32, R39). -/
def Point.republished (pt : Point) (value : List Byte) (appended : Nat) : Point :=
  { pt with committed := value, pendingBuf := pt.committed, version := if pt.version = 65535 then 1 else pt.version + 1, state := .live,
            refreshPending := false, updateOpen := false, refs := pt.refs + appended }

/-- The notices REASSIGN of slot `i` to port `target` offers port `r`, in their order (R124). -/
def State.reassignNotices (s : State) (i : Slot) (pt : Point) (target r : Port) : List Notice :=
  (if pt.updateOpen = true ∧ r = pt.owner ∧ s.mute r = false then [.expired i pt.key false] else []) ++
  (if pt.refreshPending = true ∧ r = target ∧ s.mute r = false then [.refresh i pt.key false] else []) ++
  (match s.routeFilter { pt with owner := target } .owner r with
    | none => []
    | some f => [.owner i pt.key (some target) f false])

/-- The OWNER notices, with owner field `o`, that events on the points in `slots` offer port `r`, in that order (R73, R79). -/
def State.ownerNotices (s : State) (slots : List Slot) (o : Option Port) (r : Port) : List Notice :=
  slots.filterMap fun i => (s.point i).bind fun pt => (s.routeFilter pt .owner r).map fun f => .owner i pt.key o f false

/-- The STANDING notice port `r` is offered when port `p` comes to stand `st` (R76). -/
def State.standingNotices (s : State) (p : Port) (st : Standing) (r : Port) : List Notice :=
  if r = s.supervisor ∧ s.mute r = false then [.standing p st false] else []

/-- A point of a port that is severed: its update closed and, unless it is RETIRING, its refresh request dropped and the point orphaned
(R138, steps 2 and 3). -/
def Point.severed (pt : Point) (p : Port) : Point :=
  if pt.owner ≠ p then pt
  else if pt.state = .retiring then { pt with updateOpen := false }
  else { pt with updateOpen := false, refreshPending := false, orphaned := true }

/-! ## Requests taken and answered -/

/-- Port `p` has the request `r` presented under tag `tag`, and the arbiter grants it next (R24, R25, R28). -/
def Taken (s : State) (p : Port) (tag : Byte) (r : Request) : Prop :=
  (s.engine p).request = some { tag := tag, request := r } ∧ s.nextGrant = some (.port p)

/-- A RESTORING port's run of NOP frames after a frame that is (`nopOk`) or is not a NOP answered OK; other ports keep the count (R143). A
count of 32 stays (log 11). -/
def runAfter (restoring nopOk : Bool) (n : Nat) : Nat :=
  if restoring = false ∨ n = 32 then n else if nopOk then n + 1 else 0

/-- The period is one that the engine answers. -/
def Period.isActive : Period → Bool
  | .high => false
  | .blank => false
  | .active _ _ => true

/-- An engine whose request has left the arbiter and is answered `a`: the answer is shifted out if the period that sent the request is open
and the port is not mute; a mute port's period is FFh to its end, its count and its assembled bytes lost at once (R136, R149, R157; logs 21 and
28). -/
def Engine.leaves (e : Engine) (mute : Bool) (a : Answer) : Engine :=
  match mute, e.period.isActive with
  | false, true => { e with request := none, link := .sending, answer := some a }
  | false, false => { e with request := none, link := .idle, answer := none }
  | true, true => { e with request := none, link := .idle, answer := none, period := .blank, received := 0, assembled := [] }
  | true, false => { e with request := none, link := .idle, answer := none }

/-- What handing the response to port `p`'s request back does outside the directory, and that it does nothing else there: the hold takes
the response, the answer leaves, the outcome is scored, a RESTORING port's run moves, the grant is the port's, and the standing unit
presents the first request it then holds (R25, R129, R130, R135, R143, R155). The response replaces the hold
whatever its status, the NOT_OPEN of a second COMMIT included: R155 over the end of R46, the model's choice (log 25). The model's other
readings in it: logs 10, 11, 21 and 28. -/
def Answered (s t : State) (p : Port) (tag : Byte) (c : Command) (st : Status) (body : List Byte) : Prop :=
  t.engine p = { (s.engine p).leaves (t.mute p) { tag := tag, status := st, body := body, atCheck := false } with
    hold := some { tag := tag, command := c, status := st, body := body }
    restoreCount := runAfter ((s.record p).standing == .restoring) (c == .nop && st == .ok) (s.engine p).restoreCount } ∧
  t.record p = (s.record p).after (p == s.supervisor) st ∧
  (∀ q, q ≠ p → t.engine q = s.engine q ∧ t.record q = s.record q) ∧
  t.lastGrant = .port p ∧ t.supply = s.supply ∧ t.pending = s.pending ∧
  t.standing.lastPort = s.standing.lastPort ∧ t.standing.request = s.standing.request.or t.heldRequest

/-- The directory, the notice unit and the timer unit are as they were. -/
def DirectoryKept (s t : State) : Prop := t.dir = s.dir ∧ t.notices = s.notices ∧ t.timer = s.timer

/-- Every slot but `i` is as it was. -/
def OtherSlotsKept (s t : State) (i : Slot) : Prop := ∀ j, j ≠ i → t.point j = s.point j

/-- The key index and the free-granule count are as they were. -/
def StoreKept (s t : State) : Prop := t.dir.index = s.dir.index ∧ t.dir.freeGranules = s.dir.freeGranules

/-- Every open-update count is as it was. -/
def CountsKept (s t : State) : Prop := ∀ q, t.openUpdates q = s.openUpdates q

/-- Port `p` has `n` updates open, and every other port as many as it had. -/
def CountIs (s t : State) (p : Port) (n : Nat) : Prop := t.openUpdates p = n ∧ ∀ q, q ≠ p → t.openUpdates q = s.openUpdates q

/-- Every filter is as it was. -/
def FiltersKept (s t : State) : Prop := ∀ q, t.filters q = s.filters q

/-- Every port's queue is the first part of `f`. -/
def QueuesAre (t : State) (f : Port → List Notice) : Prop := ∀ q, t.queue q = f q

/-- The timer unit is as it was but for its deadline list, which is `l`. -/
def DeadlinesAre (s t : State) (l : List Deadline) : Prop := t.timer = { s.timer with deadlines := l }

/-! ## Refusal orders, as the manual lists them -/

/-- The status of the first refusal whose condition holds (1.7, refusal order); OK when none does. -/
def firstRefusal : List (Bool × Status) → Status
  | [] => .ok
  | (b, st) :: l => if b then st else firstRefusal l

/-- The slot holds a point with the property. -/
def State.holds (s : State) (i : Slot) (f : Point → Bool) : Bool :=
  match s.point i with
  | none => false
  | some pt => f pt

/-- Port `p` stands in one of the standings named. -/
def State.stands (s : State) (p : Port) (l : List Standing) : Bool := l.any fun st => (s.record p).standing == st

/-- The refusals of each command, in the order its own rule lists them, the standing test that of R133: R22, R56, R52, R59, R34, R36, R38, R40, R42, R48, R110, R69, R70, R83,
R142, R118, R123, R94. A DISCARD by the RESTORING owner of an orphaned point follows R40 and R133 (NOT_OPEN) where R122 reads RESTRICTED: the
model's choice (log 26). -/
def State.refusals (s : State) (p : Port) : Request → List (Bool × Status)
  | .nop => []
  | .status => []
  | .attend _ => []
  | .resend _ => []
  | .create key width _ _ =>
    [(s.stands p [.restricted, .restoring], .restricted), (decide (width.toNat = 0 ∨ 64 < width.toNat), .range),
     (allSlots.any fun i => s.holds i fun pt => pt.key == key, .keyInUse),
     (allSlots.all fun i => (s.point i).isSome, .tableFull),
     (decide (s.dir.freeGranules < 2 * ((width.toNat + 15) / 16)), .storeFull)]
  | .find (.key key) => [(!allSlots.any fun i => s.holds i fun pt => pt.key == key, .noKey)]
  | .find (.slot i) => [((s.point i).isNone, .noSlot)]
  | .read i offset length =>
    [((s.point i).isNone, .noSlot), (s.holds i fun pt => !pt.isReader p, .guarded), (s.holds i fun pt => pt.state == .retiring, .retiring),
     (s.holds i fun pt => pt.state == .vacant, .noValue),
     (s.holds i fun pt => decide (length.toNat = 0 ∨ 16 < length.toNat ∨ pt.width < offset.toNat + length.toNat), .range)]
  | .scan _ _ _ count => [(decide (count.toNat = 0 ∨ 4 < count.toNat), .range)]
  | .openUpdate i =>
    [(s.stands p [.restricted, .restoring], .restricted), ((s.point i).isNone, .noSlot), (s.holds i fun pt => pt.owner != p, .notOwner),
     (s.holds i fun pt => pt.state == .retiring, .retiring), (s.holds i (·.updateOpen), .busy),
     (decide (4 ≤ s.openUpdates p), .tooMany)]
  | .write i offset data =>
    [(s.stands p [.restricted, .restoring], .restricted), ((s.point i).isNone, .noSlot), (s.holds i fun pt => pt.owner != p, .notOwner),
     (s.holds i fun pt => pt.state == .retiring, .retiring), (s.holds i fun pt => !pt.updateOpen, .notOpen),
     (s.holds i fun pt => decide (pt.width < offset.toNat + data.length), .range)]
  | .commit i =>
    [(s.stands p [.restricted, .restoring], .restricted), ((s.point i).isNone, .noSlot), (s.holds i fun pt => pt.owner != p, .notOwner),
     (s.holds i fun pt => pt.state == .retiring, .retiring), (s.holds i fun pt => !pt.updateOpen, .notOpen)]
  | .discard i =>
    [((s.point i).isNone, .noSlot), (s.holds i fun pt => pt.owner != p, .notOwner),
     (s.holds i fun pt => pt.state == .retiring, .retiring), (s.holds i fun pt => !pt.updateOpen, .notOpen)]
  | .put i offset data =>
    [(s.stands p [.restricted, .restoring], .restricted), ((s.point i).isNone, .noSlot), (s.holds i fun pt => pt.owner != p, .notOwner),
     (s.holds i fun pt => pt.state == .retiring, .retiring), (s.holds i (·.updateOpen), .busy),
     (s.holds i fun pt => decide (pt.width < offset.toNat + data.length), .range)]
  | .refresh i =>
    [(s.stands p [.restricted, .restoring], .restricted), ((s.point i).isNone, .noSlot), (s.holds i fun pt => !pt.isReader p, .guarded),
     (s.holds i fun pt => pt.state == .retiring, .retiring), (s.holds i (·.orphaned), .orphaned)]
  | .retire i =>
    [(s.stands p [.restricted, .restoring], .restricted), ((s.point i).isNone, .noSlot),
     (s.holds i fun pt => pt.owner != p && p != s.supervisor, .notOwner), (s.holds i fun pt => pt.state == .retiring, .retiring)]
  | .watch filter _ _ _ => [(s.stands p [.restricted, .restoring], .restricted), (decide (7 < filter.toNat), .range)]
  | .unwatch filter => [(decide (7 < filter.toNat), .range)]
  | .take count => [(decide (count.toNat = 0 ∨ 4 < count.toNat), .range)]
  | .restore target =>
    [(p != s.supervisor, .notSupervisor), (decide (3 < target.toNat), .range),
     (allPorts.any fun q => q.val == target.toNat && (s.record q).standing != .severed, .badTarget)]
  | .flush target => [(p != s.supervisor, .notSupervisor), (decide (3 < target.toNat), .range)]
  | .reassign i target =>
    [(p != s.supervisor, .notSupervisor), (decide (3 < target.toNat), .range), ((s.point i).isNone, .noSlot),
     (s.holds i fun pt => pt.state == .retiring, .retiring),
     (allPorts.any fun q => q.val == target.toNat &&
        ((s.record q).standing == .severed || (s.record q).standing == .restoring || (s.record q).severPending), .badTarget)]
  | .timing _ holdlim => [(p != s.supervisor, .notSupervisor), (decide (holdlim.toNat = 0 ∨ 4095 < holdlim.toNat), .range)]

/-- Port `p`'s request `r`, under tag `tag`, is taken and passes every test of its refusal order. -/
def Passes (s : State) (p : Port) (tag : Byte) (r : Request) : Prop :=
  Taken s p tag r ∧ firstRefusal (s.refusals p r) = .ok

/-! ## Grants to the timer and standing units, and frames an engine answers itself -/

/-- The grant was the timer unit's: the port engines, the standing unit and the supply watch are as they were (R25, R100). -/
def TimerGranted (s t : State) : Prop :=
  t.lastGrant = .timer ∧ t.engines = s.engines ∧ t.standing = s.standing ∧ t.supply = s.supply ∧ t.pending = s.pending

/-- The grant was the standing unit's, for port `p`: the rotation moved to `p`, the unit presents the first request it then holds, and the
other ports' engines and records are as they were (R25, R135). The model's reading in it: log 10. -/
def StandingGranted (s t : State) (p : Port) : Prop :=
  t.lastGrant = .standing ∧ t.standing.lastPort = p ∧ t.standing.request = t.heldRequest ∧
  (∀ q, q ≠ p → t.engine q = s.engine q ∧ t.record q = s.record q) ∧ t.supply = s.supply ∧ t.pending = s.pending

/-- Port `p`'s engine has answered the frame itself: the answer leaves unless the outcome made the port mute, a RESTORING port's run is
broken, the outcome is scored, and nothing else changes but what the standing unit presents (R130, R136, R143, R151, R155). The model's
readings in it: logs 10, 11, 21, 23 and 28. -/
def AnsweredItself (s t : State) (p : Port) (frame : List Byte) (a : Answer) (outcome : Status) : Prop :=
  t.engine p =
    (if t.mute p then
      { s.engine p with link := .idle, answer := none, period := .blank, received := 0, assembled := []
                        restoreCount := runAfter ((s.record p).standing == .restoring) false (s.engine p).restoreCount }
    else
      { s.engine p with link := .sending, answer := some a, received := frame.length, assembled := (frame.dropLast).take 27
                        restoreCount := runAfter ((s.record p).standing == .restoring) false (s.engine p).restoreCount }) ∧
  t.record p = (s.record p).after (p == s.supervisor) outcome ∧
  (∀ q, q ≠ p → t.engine q = s.engine q ∧ t.record q = s.record q) ∧ DirectoryKept s t ∧
  t.lastGrant = s.lastGrant ∧ t.supply = s.supply ∧ t.pending = s.pending ∧
  t.standing.lastPort = s.standing.lastPort ∧ t.standing.request = s.standing.request.or t.heldRequest

/-- The bytes of a frame before its check byte (R150, R173, R178). -/
def coveredBytes (tag : Byte) (r : Request) : List Byte :=
  commandCode r.command :: tag :: BitVec.ofNat 8 (encodeBody r).length :: encodeBody r

/-- What each outcome adds to a score (R129). -/
def scoreChange : Status → Int
  | .checkFail | .badFrame => 8
  | .noSlot | .notOwner | .range => 2
  | .ok => -1
  | .held | .restricted | .notSupervisor | .noHeld | .noKey | .keyInUse | .tableFull | .storeFull | .guarded | .noValue | .retiring
  | .busy | .notOpen | .tooMany | .orphaned | .badTarget => 0

/-- The code and the body of each request, byte by byte, as the table of R178 lays them out. -/
def requestLayout : Request → Byte × List Byte
  | .nop => (0x01, [])
  | .status => (0x02, [])
  | .attend on => (0x03, [if on then 0x01 else 0x00])
  | .resend tag => (0x04, [tag])
  | .create key width readers fresh =>
    (0x10, [key.extractLsb' 16 8, key.extractLsb' 8 8, key.extractLsb' 0 8, width, readers.setWidth 8, fresh.extractLsb' 8 8,
      fresh.extractLsb' 0 8])
  | .find (.slot i) => (0x11, [BitVec.ofNat 8 i.val])
  | .find (.key key) => (0x11, [key.extractLsb' 16 8, key.extractLsb' 8 8, key.extractLsb' 0 8])
  | .read i offset length => (0x12, [BitVec.ofNat 8 i.val, offset, length])
  | .scan key mask none count =>
    (0x13, [key.extractLsb' 16 8, key.extractLsb' 8 8, key.extractLsb' 0 8, mask.extractLsb' 16 8, mask.extractLsb' 8 8,
      mask.extractLsb' 0 8, 0x00, 0x00, 0x00, count.setWidth 8])
  | .scan key mask (some a) count =>
    (0x13, [key.extractLsb' 16 8, key.extractLsb' 8 8, key.extractLsb' 0 8, mask.extractLsb' 16 8, mask.extractLsb' 8 8,
      mask.extractLsb' 0 8, a.extractLsb' 16 8, a.extractLsb' 8 8, a.extractLsb' 0 8, 0x80 + count.setWidth 8])
  | .openUpdate i => (0x20, [BitVec.ofNat 8 i.val])
  | .write i offset data => (0x21, BitVec.ofNat 8 i.val :: offset :: data)
  | .commit i => (0x22, [BitVec.ofNat 8 i.val])
  | .discard i => (0x23, [BitVec.ofNat 8 i.val])
  | .put i offset data => (0x24, BitVec.ofNat 8 i.val :: offset :: data)
  | .refresh i => (0x25, [BitVec.ofNat 8 i.val])
  | .retire i => (0x26, [BitVec.ofNat 8 i.val])
  | .watch filter key mask kinds =>
    (0x30, [filter, key.extractLsb' 16 8, key.extractLsb' 8 8, key.extractLsb' 0 8, mask.extractLsb' 16 8, mask.extractLsb' 8 8,
      mask.extractLsb' 0 8, kinds.setWidth 8])
  | .unwatch filter => (0x31, [filter])
  | .take count => (0x32, [count])
  | .restore target => (0x40, [target])
  | .flush target => (0x41, [target])
  | .reassign i target => (0x42, [BitVec.ofNat 8 i.val, target])
  | .timing tickdiv holdlim => (0x43, [tickdiv, holdlim.extractLsb' 8 8, holdlim.extractLsb' 0 8])

/-- Byte 1 of a notice record: the overrun flag in bit 7, the filter number in bits 2 to 0 (R182). -/
def recordByte (filter : Nat) (overrun : Bool) : Byte := BitVec.ofNat 8 (filter + if overrun then 128 else 0)

/-- The record of each notice, byte by byte, as the table of R182 lays it out. -/
def Notice.layout : Notice → List Byte
  | .changed i key v f o =>
    [0x01, recordByte f.val o, BitVec.ofNat 8 i.val, key.extractLsb' 16 8, key.extractLsb' 8 8, key.extractLsb' 0 8, v.extractLsb' 8 8,
      v.extractLsb' 0 8]
  | .stale i key v f o =>
    [0x02, recordByte f.val o, BitVec.ofNat 8 i.val, key.extractLsb' 16 8, key.extractLsb' 8 8, key.extractLsb' 0 8, v.extractLsb' 8 8,
      v.extractLsb' 0 8]
  | .retired i key v f o =>
    [0x03, recordByte f.val o, BitVec.ofNat 8 i.val, key.extractLsb' 16 8, key.extractLsb' 8 8, key.extractLsb' 0 8, v.extractLsb' 8 8,
      v.extractLsb' 0 8]
  | .owner i key none f o =>
    [0x04, recordByte f.val o, BitVec.ofNat 8 i.val, key.extractLsb' 16 8, key.extractLsb' 8 8, key.extractLsb' 0 8, 0xFF, 0x00]
  | .owner i key (some p) f o =>
    [0x04, recordByte f.val o, BitVec.ofNat 8 i.val, key.extractLsb' 16 8, key.extractLsb' 8 8, key.extractLsb' 0 8,
      BitVec.ofNat 8 p.val, 0x00]
  | .refresh i key o =>
    [0x05, recordByte 0 o, BitVec.ofNat 8 i.val, key.extractLsb' 16 8, key.extractLsb' 8 8, key.extractLsb' 0 8, 0x00, 0x00]
  | .expired i key o =>
    [0x06, recordByte 0 o, BitVec.ofNat 8 i.val, key.extractLsb' 16 8, key.extractLsb' 8 8, key.extractLsb' 0 8, 0x00, 0x00]
  | .standing p st o => [0x07, recordByte 0 o, BitVec.ofNat 8 p.val, st.code, 0x00, 0x00, 0x00, 0x00]
  | .gap => [0x08, 0x00, 0x00, 0x00, 0x00, 0x00, 0x00, 0x00]

/-- `Merges e n m`: the queued entry `e` may absorb the offered notice `n`, being of its kind and naming its slot or port, and is `m` after
it: `e` with the version, owner, filter or standing of `n`, its overrun flag set, its slot, key and port its own (R77, R82). -/
inductive Merges : Notice → Notice → Notice → Prop where
  | changed (i : Slot) (key key' : Key) (v v' : Version) (f f' : FilterNo) (o o' : Bool) :
      Merges (.changed i key v f o) (.changed i key' v' f' o') (.changed i key v' f' true)
  | stale (i : Slot) (key key' : Key) (v v' : Version) (f f' : FilterNo) (o o' : Bool) :
      Merges (.stale i key v f o) (.stale i key' v' f' o') (.stale i key v' f' true)
  | retired (i : Slot) (key key' : Key) (v v' : Version) (f f' : FilterNo) (o o' : Bool) :
      Merges (.retired i key v f o) (.retired i key' v' f' o') (.retired i key v' f' true)
  | owner (i : Slot) (key key' : Key) (w w' : Option Port) (f f' : FilterNo) (o o' : Bool) :
      Merges (.owner i key w f o) (.owner i key' w' f' o') (.owner i key w' f' true)
  | refresh (i : Slot) (key key' : Key) (o o' : Bool) : Merges (.refresh i key o) (.refresh i key' o') (.refresh i key true)
  | expired (i : Slot) (key key' : Key) (o o' : Bool) : Merges (.expired i key o) (.expired i key' o') (.expired i key true)
  | standing (p : Port) (st st' : Standing) (o o' : Bool) : Merges (.standing p st o) (.standing p st' o') (.standing p st' true)

/-- Among the ports with the property, `p` is the first in rotation from the port after `last` (R135). -/
def FirstInRotation (last : Port) (holds : Port → Prop) (p : Port) : Prop :=
  holds p ∧ ∀ q, (q - last - 1).val < (p - last - 1).val → ¬holds q

/-- The number of a notice's kind (R177). -/
def Notice.kindNo : Notice → Nat
  | .changed .. => 1
  | .stale .. => 2
  | .retired .. => 3
  | .owner .. => 4
  | .refresh .. => 5
  | .expired .. => 6
  | .standing .. => 7
  | .gap => 8

/-- The port a STANDING notice names. -/
def Notice.port? : Notice → Option Port
  | .standing p _ _ => some p
  | _ => none

/-- Filter `f` of port `p` matches an event of kind `k` on a point with key `key`, bit by bit (R68). -/
def State.filterMatches (s : State) (p : Port) (f : FilterNo) (k : WatchKind) (key : Key) : Prop :=
  ((s.filters p).get f).inUse = true ∧
  (∀ b, b < 24 → ((s.filters p).get f).mask.getLsbD b = true → key.getLsbD b = ((s.filters p).get f).key.getLsbD b) ∧
  ((s.filters p).get f).kinds.getLsbD k.bit = true

end Sys2Proof.Machine
end

