-- ==== Sys2Proof/WellFormed.lean ====
section
/-! DEFINITION. What a command must satisfy beyond its types: WRITE and PUT carry 1 to 16 data bytes (R36, R42), and the frame of a
check-byte event is complete, from CMD to CHK (R150). -/

namespace Sys2Proof

/-- 1 to 16 data bytes (R36, R42, R174). -/
def dataWellFormed (data : List Byte) : Bool :=
  1 ≤ data.length && data.length ≤ Config.maxTransfer

/-- The bytes of a whole frame: CMD, TAG, LEN, LEN body bytes and CHK (R150). -/
def frameWellFormed : List Byte → Bool
  | _ :: _ :: len :: rest => rest.length == len.toNat + 1
  | _ => false

/-- A request that a frame can carry. -/
def Request.wellFormed : Request → Bool
  | .write _ _ data => dataWellFormed data
  | .put _ _ data => dataWellFormed data
  | _ => true

/-- A command whose operands can occur. -/
def Instr.wellFormed : Instr → Bool
  | .write _ _ _ data => dataWellFormed data
  | .put _ _ _ data => dataWellFormed data
  | .resend _ frame => frameWellFormed frame
  | .badFrame _ frame => frameWellFormed frame
  | .checkFail _ frame => frameWellFormed frame
  | .held _ frame => frameWellFormed frame
  | .requestPresented _ frame => frameWellFormed frame
  | _ => true

end Sys2Proof
end

