-- ==== Sys2Proof/Certificates/Slice0/Obligations.lean ====
section
/-! DEFINITION. The statements for the provers, in the order of OBLIGATIONS.json. In a statement about a command, `Taken` and `Passes` speak of
the state before it alone, and the conclusion gives the next state: the answer (`Answered`), what the command changes, and that all else
is as it was. -/

open Sys2Proof Sys2Proof.Machine

/-! ## The machine -/

/-- A step takes the command at the front of the queue and carries it out on the state with the queue's rest. -/
def Obligations.StepRunsFrontCommand : Prop :=
  ∀ (c : Instr) (rest : List Instr) (s : State), s.pending = c :: rest → step s = exec c { s with pending := rest }

/-- MODEL'S CHOICE (log 3; the counts are R91, R92, R96 and R166): on an empty queue a step is one 100 microsecond period of the part's clock.
In RUNNING the sub-tick count reaches TICKDIV + 1 and the tick counter advances, or the sub-tick count alone advances; in SETTLING the
settle time advances, and at 2 ms the supply state is RUNNING; in RESET and FROZEN every count holds. -/
def Obligations.ClockPeriod : Prop :=
  ∀ s : State, s.pending = [] →
    (s.supply.state = .running → s.timer.subTick < s.timer.tickdiv.toNat →
      step s = .next { s with timer := { s.timer with subTick := s.timer.subTick + 1 } }) ∧
    (s.supply.state = .running → s.timer.subTick = s.timer.tickdiv.toNat →
      step s = .next { s with timer := { s.timer with
        tick := s.timer.tick + 1, subTick := 0
        deadlines := s.timer.deadlines.map fun d => { d with due := d.due || d.dueTick == s.timer.tick + 1 } } }) ∧
    (s.supply.state = .settling → s.supply.settleTime < 1900 →
      step s = .next { s with supply := { s.supply with settleTime := s.supply.settleTime + 100 } }) ∧
    (s.supply.state = .settling → s.supply.settleTime = 1900 →
      step s = .next { s with supply := { s.supply with state := .running, settleTime := 0 } }) ∧
    (s.supply.state = .reset ∨ s.supply.state = .frozen → step s = .next s)

/-- The arbiter's choice and its fairness: in RUNNING alone, the first requester in ring order after the last grant that has a request
presented; a requester that waits comes nearer with every grant to another, and at most five stand before it. The standing unit's choice
(R135): a sever of a port with no request presented, else the completion of a restoration at count 32, else a standing change, and within a
kind the first port in rotation after the one of its last grant. -/
def Obligations.ArbiterAndStandingRotation : Prop :=
  (∀ (s : State) (g : Requester),
    (s.nextGrant = some g ↔
      s.supply.state = .running ∧ s.presented g = true ∧
      ∀ r, (ringAfter s.lastGrant).idxOf r < (ringAfter s.lastGrant).idxOf g → s.presented r = false) ∧
    (∀ r, (ringAfter s.lastGrant).idxOf r ≤ 5) ∧
    (s.nextGrant = some g → ∀ r, s.presented r = true → r ≠ g → (ringAfter g).idxOf r < (ringAfter s.lastGrant).idxOf r)) ∧
  ∀ (s : State) (p : Port) (sever complete change : Port → Prop),
    (∀ q, sever q ↔ (s.record q).severPending = true ∧ (s.engine q).request = none) →
    (∀ q, complete q ↔ (s.record q).standing = .restoring ∧ (s.engine q).restoreCount = 32) →
    (∀ q, change q ↔ (s.record q).reportPending = true) →
    (s.heldRequest = some (.sever p) ↔ FirstInRotation s.standing.lastPort sever p) ∧
    (s.heldRequest = some (.restored p) ↔ (∀ q, ¬sever q) ∧ FirstInRotation s.standing.lastPort complete p) ∧
    (s.heldRequest = some (.change p) ↔
      (∀ q, ¬sever q) ∧ (∀ q, ¬complete q) ∧ FirstInRotation s.standing.lastPort change p) ∧
    (s.heldRequest = none ↔ ∀ q, ¬sever q ∧ ¬complete q ∧ ¬change q)

/-- A presented request stays presented until it is granted, or, for a port's, withdrawn by a freeze; a reset leaves none. -/
def Obligations.RequestsStayPresented : Prop :=
  ∀ (c : Instr) (s t : State), LinkSound s → exec c s = .next t → c ≠ .powerOnReset → c ≠ .pinReset → c ≠ .supplyReset →
    (∀ p pr, (s.engine p).request = some pr →
      (t.engine p).request = some pr ∨ (pr.request.taken p = some c ∧ s.nextGrant = some (.port p)) ∨ c = .droopFreeze) ∧
    (∀ i k, s.timer.request = some (i, k) →
      t.timer.request = some (i, k) ∨
      ((c = .freshExpiry i ∧ k = .fresh ∨ c = .holdExpiry i ∧ k = .hold) ∧ s.nextGrant = some .timer)) ∧
    (∀ r, s.standing.request = some r →
      t.standing.request = some r ∨
      ((∃ p, c = .sever p ∧ r = .sever p ∨ c = .restorationComplete p ∧ r = .restored p ∨ c = .standingChange p ∧ r = .change p) ∧
        s.nextGrant = some .standing))

/-- MODEL'S CHOICE in what it says of a command that does not occur (log 1); R24, R28 and R99 give the conditions: a taken command whose
request is not the port's presented one, or whose turn has not come, an expiry or a standing operation that is not granted, a TICK
outside RUNNING, an EXPIRY_REQUEST with no due head or with one presented, a check byte that the engine is not receiving or whose frame or
supply state is another event's (R151, R152, R156, R158), a fall of SEL that is low and a rise of SEL that is high (R153, R154), and a supply
event in a supply state or with an SWM that it does not start from (R165 to R171) change nothing. -/
def Obligations.OutOfTurnChangesNothing : Prop :=
  ∀ (s : State) (p : Port) (r : Request) (c : Instr) (i : Slot),
    (r.taken p = some c → (∀ tag, ¬Taken s p tag r) → exec c s = .next s) ∧
    (¬(s.timer.request = some (i, .fresh) ∧ s.nextGrant = some .timer) → exec (.freshExpiry i) s = .next s) ∧
    (¬(s.timer.request = some (i, .hold) ∧ s.nextGrant = some .timer) → exec (.holdExpiry i) s = .next s) ∧
    (¬(s.standing.request = some (.sever p) ∧ s.nextGrant = some .standing) → exec (.sever p) s = .next s) ∧
    (¬(s.standing.request = some (.restored p) ∧ s.nextGrant = some .standing) → exec (.restorationComplete p) s = .next s) ∧
    (¬(s.standing.request = some (.change p) ∧ s.nextGrant = some .standing) → exec (.standingChange p) s = .next s) ∧
    (s.supply.state ≠ .running → exec .tick s = .next s) ∧
    ((s.timer.request.isSome ∨ ∀ d, s.timer.deadlines.head? = some d → d.due = false) → exec .expiryRequest s = .next s) ∧
    (∀ frame : List Byte,
      ((s.receiving p = false ∨ ∀ tag, checkFrame frame ≠ .badFrame tag) → exec (.badFrame p frame) s = .next s) ∧
      ((s.receiving p = false ∨ ∀ tag, checkFrame frame ≠ .checkFail tag) → exec (.checkFail p frame) s = .next s) ∧
      ((s.receiving p = false ∨ s.supply.state = .running ∨ ∀ tag q, checkFrame frame ≠ .good tag q) →
        exec (.held p frame) s = .next s) ∧
      ((s.receiving p = false ∨ s.supply.state ≠ .running ∨ ∀ tag named, checkFrame frame ≠ .good tag (.resend named)) →
        exec (.resend p frame) s = .next s) ∧
      ((s.receiving p = false ∨ s.supply.state ≠ .running ∨
          ∀ tag q, checkFrame frame = .good tag q → ∃ named, q = .resend named) →
        exec (.requestPresented p frame) s = .next s)) ∧
    ((s.engine p).period ≠ .high → exec (.selectPeriodStart p) s = .next s) ∧
    ((s.engine p).period = .high → exec (.selectPeriodEnd p) s = .next s) ∧
    (s.supply.state ≠ .reset → ∀ sup swm, exec (.resetRelease sup swm) s = .next s) ∧
    (s.supply.state ≠ .settling → exec .settleEnd s = .next s) ∧
    (s.supply.state ≠ .frozen → exec .droopRecovery s = .next s) ∧
    ((s.supply.state = .reset ∨ s.supply.state = .frozen ∨ s.supply.swm = .reset) → exec .droopFreeze s = .next s) ∧
    ((s.supply.state = .reset ∨ s.supply.state = .frozen ∨ s.supply.swm = .freeze) → exec .supplyReset s = .next s)

/-! ## Frames -/

/-- Every request's frame is CMD, TAG, LEN and the body that R178 lays out for it, then the check byte, and is read back with every field,
whatever bytes follow the check byte; with another check byte the frame is a CHECK_FAIL. -/
def Obligations.FramesRoundTrip : Prop :=
  ∀ (tag : Byte) (r : Request) (extra : List Byte), r.wellFormed = true →
    encodeFrame tag r =
      (requestLayout r).1 :: tag :: BitVec.ofNat 8 (requestLayout r).2.length :: (requestLayout r).2 ++ [crc8 (coveredBytes tag r)] ∧
    checkFrame (encodeFrame tag r ++ extra) = .good tag r ∧
    ∀ chk, chk ≠ crc8 (coveredBytes tag r) → checkFrame (coveredBytes tag r ++ chk :: extra) = .checkFail tag

/-- A complete frame whose bytes before the check byte are those of no request (LEN above 24, no such command, a LEN the command does not
allow, or a reserved field that is not zero) is a BAD_FRAME, whatever its check byte. -/
def Obligations.OtherFramesAreBad : Prop :=
  ∀ (cmd tag len chk : Byte) (body extra : List Byte), body.length = len.toNat →
    (∀ r : Request, r.wellFormed = true → cmd :: tag :: len :: body ≠ coveredBytes tag r) →
    checkFrame (cmd :: tag :: len :: body ++ chk :: extra) = .badFrame tag

/-- The CRC-8 is shifted bit by bit from zero, gives F4h for the digits 1 to 9, and guards a request and an answer as R173 says; the codes of
the statuses (R180), of the life states, the standings and the supply states (R177). -/
def Obligations.CheckByteAndCodes : Prop :=
  crc8 [] = 0 ∧
  (∀ (bs : List Byte) (b : Byte), crc8 (bs ++ [b]) =
    (List.range 8).foldl (fun r _ => if r.getLsbD 7 then (r <<< 1) ^^^ 0x07 else r <<< 1) (crc8 bs ^^^ b)) ∧
  crc8 [0x31, 0x32, 0x33, 0x34, 0x35, 0x36, 0x37, 0x38, 0x39] = 0xF4 ∧
  (∀ (tag : Byte) (r : Request), encodeFrame tag r = coveredBytes tag r ++ [crc8 (coveredBytes tag r)]) ∧
  (∀ a : Answer, a.bytes = 0x5C :: (a.tag :: statusCode a.status :: BitVec.ofNat 8 a.body.length :: a.body) ++
    [crc8 (a.tag :: statusCode a.status :: BitVec.ofNat 8 a.body.length :: a.body)]) ∧
  [Status.ok, .checkFail, .badFrame, .held, .restricted, .notSupervisor, .noHeld].map statusCode =
    [0x00, 0x01, 0x02, 0x03, 0x04, 0x05, 0x06] ∧
  [Status.noSlot, .noKey, .keyInUse, .tableFull, .storeFull, .range, .notOwner, .guarded, .noValue, .retiring, .busy, .notOpen, .tooMany,
    .orphaned, .badTarget].map statusCode =
    [0x10, 0x11, 0x12, 0x13, 0x14, 0x15, 0x16, 0x17, 0x18, 0x19, 0x1A, 0x1B, 0x1C, 0x1D, 0x1E] ∧
  [PointState.vacant, .live, .stale, .retiring].map PointState.code = [0x01, 0x02, 0x03, 0x04] ∧
  [Standing.good, .warned, .restricted, .restoring, .severed].map Standing.code = [0x00, 0x01, 0x02, 0x03, 0x04] ∧
  [SupplyState.settling, .running, .frozen].map SupplyState.code = [0x01, 0x02, 0x03]

/-- Every notice is sent as the 8 bytes that R182 lays out for its kind, the first of them its kind, and no two notices have the same
record. -/
def Obligations.NoticeRecords : Prop :=
  ∀ a b : Notice, a.encode = a.layout ∧ a.encode.length = 8 ∧ a.encode.head? = some (BitVec.ofNat 8 a.kindNo) ∧ (a.encode = b.encode → a = b)

/-! ## The port link -/

/-- SEL falls: in RESET, on a mute port and with a request in flight the period is FFh throughout; otherwise the engine is RECEIVING and the
header bytes are the port status byte, with its fields in their bits, and the queue count. SEL rises: what was received and what was not
yet sent are lost, and a request in flight stays. Nothing else changes. What a port shifts out in a period, byte by byte (R153): nothing
while SEL is high, FFh in a period of FFh; otherwise the two header bytes, FFh until the answer is ready, the answer from the byte after CHK if
the engine formed it and else `wait` bytes further on, for whatever number of filler bytes `wait` the host clocks by then (log 6), and FFh
after it. -/
def Obligations.SelectPeriods : Prop :=
  (∀ (e : Engine) (wait : Nat),
    (e.period = .high → ∀ n, e.sdoByte wait n = none) ∧
    (e.period = .blank → ∀ n, e.sdoByte wait n = some 0xFF) ∧
    ∀ header count, e.period = .active header count →
      e.sdoByte wait 1 = some header ∧ e.sdoByte wait 2 = some count ∧
      (e.answer = none → ∀ n, 3 ≤ n → e.sdoByte wait n = some 0xFF) ∧
      ∀ a start, e.answer = some a → start = e.received + 1 + (if a.atCheck then 0 else wait) → 3 ≤ start →
        (∀ n, 3 ≤ n → n < start → e.sdoByte wait n = some 0xFF) ∧
        (∀ k, k < a.bytes.length → e.sdoByte wait (start + k) = a.bytes[k]?) ∧
        ∀ n, start + a.bytes.length ≤ n → e.sdoByte wait n = some 0xFF) ∧
  ∀ (s : State) (p : Port), LinkSound s →
    ((s.engine p).period = .high → (s.supply.state = .reset ∨ s.mute p = true ∨ (s.engine p).request.isSome) →
      exec (.selectPeriodStart p) s = .next (s.setEngine p { s.engine p with period := .blank })) ∧
    ((s.engine p).period = .high → (s.supply.state ≠ .reset ∧ s.mute p = false ∧ (s.engine p).request = none) →
      ∃ header count : Byte,
        exec (.selectPeriodStart p) s = .next (s.setEngine p
          { s.engine p with link := .receiving, answer := none, received := 0, assembled := [], period := .active header count }) ∧
        header.toNat = 16 * (s.record p).standing.code.toNat + 4 * s.supply.state.code.toNat + (if s.queue p = [] then 0 else 1) ∧
        (QueuesSound s → count.toNat = (s.queue p).length) ∧ header ≠ 0xFF) ∧
    ((s.engine p).period ≠ .high →
      exec (.selectPeriodEnd p) s = .next (s.setEngine p
        { s.engine p with period := .high, answer := none, received := 0, assembled := []
                          link := if (s.engine p).request.isSome then .inFlight else .idle }))

/-- The frames an engine that is receiving answers itself, with the received tag and no body: an ill-formed frame and one with a wrong check
byte, which are scored, and any well-formed frame while the supply state is not RUNNING, which is HELD and not scored. The model's readings in it:
a count of 32 stays also at HELD (log 11), a held standing request is presented at once, outside RUNNING too (log 10), a port that becomes
mute is IDLE (log 21) with its count and assembled bytes lost at once (log 28), and the bytes received are set at the check byte
(log 23). -/
def Obligations.FramesAnsweredByTheEngine : Prop :=
  ∀ (s : State) (p : Port) (tag : Byte), s.receiving p = true →
    (∀ frame, frameWellFormed frame = true → checkFrame frame = .badFrame tag →
      ∃ t, exec (.badFrame p frame) s = .next t ∧ AnsweredItself s t p frame { tag := tag, status := .badFrame, body := [], atCheck := true } .badFrame) ∧
    (∀ frame, frameWellFormed frame = true → checkFrame frame = .checkFail tag →
      ∃ t, exec (.checkFail p frame) s = .next t ∧
        AnsweredItself s t p frame { tag := tag, status := .checkFail, body := [], atCheck := true } .checkFail) ∧
    (∀ r : Request, r.wellFormed = true → s.supply.state ≠ .running →
      ∃ t, exec (.held p (encodeFrame tag r)) s = .next t ∧
        ((s.record p).sound (p == s.supervisor) → t.record p = s.record p) ∧
        AnsweredItself s t p (encodeFrame tag r) { tag := tag, status := .held, body := [], atCheck := true } .held)

/-- The check byte of a RESEND frame in RUNNING: the held response as it was formed, under its own tag, when the hold has the named tag;
otherwise NO_HELD under the frame's tag with what the hold holds, so also for the first tag of a COMMIT sent twice (R155 over the end of
R46, the model's choice: log 25). Neither is scored and the hold stays. -/
def Obligations.ResendAnswers : Prop :=
  ∀ (s : State) (p : Port) (tag named : Byte), s.receiving p = true → s.supply.state = .running →
    ∃ (t : State) (a : Answer), exec (.resend p (encodeFrame tag (.resend named))) s = .next t ∧
      (∀ h, (s.engine p).hold = some h → h.tag = named → a = { tag := h.tag, status := h.status, body := h.body, atCheck := true }) ∧
      (∀ h, (s.engine p).hold = some h → h.tag ≠ named →
        a = { tag := tag, status := .noHeld, body := [0x01, h.tag, commandCode h.command], atCheck := true }) ∧
      ((s.engine p).hold = none → a = { tag := tag, status := .noHeld, body := [0x00, 0x00, 0x00], atCheck := true }) ∧
      ((s.record p).sound (p == s.supervisor) → t.record p = s.record p) ∧ (t.engine p).hold = (s.engine p).hold ∧
      AnsweredItself s t p (encodeFrame tag (.resend named)) a .noHeld

/-- The check byte of any other well-formed frame in RUNNING: the request is presented to the arbiter with its tag, the engine is IN FLIGHT,
and nothing else changes. -/
def Obligations.RequestsPresented : Prop :=
  ∀ (s : State) (p : Port) (tag : Byte) (r : Request), r.wellFormed = true → (∀ named, r ≠ .resend named) → s.receiving p = true →
    s.supply.state = .running →
    exec (.requestPresented p (encodeFrame tag r)) s = .next (s.setEngine p
      { s.engine p with link := .inFlight, request := some { tag := tag, request := r }, received := (encodeFrame tag r).length
                        assembled := coveredBytes tag r })

/-- A refused command of the publishing and retirement group: the first refusal of its rule's order is answered with no body, and the
directory, the notice unit and the timer unit are as they were. Two of its clauses are the model's choice and not the spec's word: a DISCARD by
the RESTORING owner of an orphaned point is answered NOT_OPEN, as R40 and R133 say, and not RESTRICTED, as R122 does (log 26), and a
refusal, the NOT_OPEN of a second COMMIT included, replaces the hold (R155, against the end of R46; log 25). -/
def Obligations.PublishingRefusals : Prop :=
  ∀ (s : State) (p : Port) (tag : Byte) (r : Request) (c : Instr), IndexExact s → Taken s p tag r → r.taken p = some c →
    r.command ∈ [Command.create, .openUpdate, .write, .commit, .discard, .put, .refresh, .retire] →
    firstRefusal (s.refusals p r) ≠ .ok →
    ∃ t, exec c s = .next t ∧ Answered s t p tag r.command (firstRefusal (s.refusals p r)) [] ∧ DirectoryKept s t

/-- A refused reading, watching or supervisor-only command: the first refusal of its rule's order is answered with no body, and the
directory, the notice unit and the timer unit are as they were. -/
def Obligations.OtherRefusals : Prop :=
  ∀ (s : State) (p : Port) (tag : Byte) (r : Request) (c : Instr), IndexExact s → Taken s p tag r → r.taken p = some c →
    r.command ∈ [Command.find, .read, .scan, .watch, .unwatch, .take, .restore, .flush, .reassign, .timing] →
    firstRefusal (s.refusals p r) ≠ .ok →
    ∃ t, exec c s = .next t ∧ Answered s t p tag r.command (firstRefusal (s.refusals p r)) [] ∧ DirectoryKept s t

/-! ## NOP, STATUS, ATTEND and the reading commands -/

/-- A taken NOP is answered OK with no body and changes nothing but the asking port's engine and score: the score falls by one, and the run
of a RESTORING port rises by one. -/
def Obligations.NopTaken : Prop :=
  ∀ (s : State) (p : Port) (tag : Byte), Taken s p tag .nop →
    ∃ t, exec (.nop p) s = .next t ∧ Answered s t p tag .nop .ok [] ∧ DirectoryKept s t ∧
      ((s.record p).sound (p == s.supervisor) → s.mute p = false → (s.record p).standing ≠ .restoring →
        (t.record p).score = (s.record p).score - 1) ∧
      ((s.record p).standing = .restoring → (s.engine p).restoreCount < 32 → (t.engine p).restoreCount = (s.engine p).restoreCount + 1)

/-- A taken STATUS is answered OK with the 12 bytes of R179, the score being that before its own outcome. -/
def Obligations.StatusTaken : Prop :=
  ∀ (s : State) (p : Port) (tag : Byte), Taken s p tag .status →
    ∃ (t : State) (free granules : BitVec 16), exec (.status p) s = .next t ∧
      free = BitVec.ofNat 16 (allSlots.countP fun i => (s.point i).isNone) ∧ granules = BitVec.ofNat 16 s.dir.freeGranules ∧
      Answered s t p tag .status .ok
        [(s.record p).standing.code, BitVec.ofNat 8 (s.record p).score, BitVec.ofNat 8 (s.queue p).length,
         (if (s.engine p).attention then 0x01 else 0x00), BitVec.ofNat 8 (s.openUpdates p),
         free.extractLsb' 8 8, free.extractLsb' 0 8, granules.extractLsb' 8 8, granules.extractLsb' 0 8,
         s.timer.tick.extractLsb' 8 8, s.timer.tick.extractLsb' 0 8, 0x02] ∧
      DirectoryKept s t

/-- A taken ATTEND sets the asking port's attention enable and is answered OK with no body; the line follows: asserted exactly while the
queue holds an entry, the enable is on and the port does not stand SEVERED. -/
def Obligations.AttendTaken : Prop :=
  ∀ (s : State) (p : Port) (tag : Byte) (on : Bool), Taken s p tag (.attend on) →
    ∃ t, exec (.attend p on) s = .next t ∧
      Answered (s.setEngine p { s.engine p with attention := on }) t p tag .attend .ok [] ∧ (t.engine p).attention = on ∧
      DirectoryKept s t ∧
      ∀ q, t.attentionLine q = true ↔ t.queue q ≠ [] ∧ (t.engine q).attention = true ∧ (t.record q).standing ≠ .severed

/-- The FIND record, byte by byte (R181). -/
def Obligations.FindTaken : Prop :=
  ∀ (s : State) (p : Port) (tag : Byte) (target : FindBy) (i : Slot) (pt : Point), IndexExact s → Taken s p tag (.find target) →
    s.point i = some pt → (target = .slot i ∨ target = .key pt.key) →
    ∃ t, exec (.find p target) s = .next t ∧ DirectoryKept s t ∧
      Answered s t p tag .find .ok
        [BitVec.ofNat 8 i.val, pt.key.extractLsb' 16 8, pt.key.extractLsb' 8 8, pt.key.extractLsb' 0 8, pt.state.code,
         BitVec.ofNat 8 pt.owner.val, BitVec.ofNat 8 pt.width, pt.readers.setWidth 8, pt.fresh.extractLsb' 8 8,
         pt.fresh.extractLsb' 0 8,
         (if pt.updateOpen then 0x01 else 0) ||| (if pt.refreshPending then 0x02 else 0) ||| (if pt.orphaned then 0x04 else 0) |||
           (if pt.isReader p then 0x80 else 0),
         BitVec.ofNat 8 pt.refs,
         (if pt.isReader p then pt.version.extractLsb' 8 8 else 0), (if pt.isReader p then pt.version.extractLsb' 0 8 else 0)]

/-- A taken READ that passes its refusals is answered OK with the version, the LIVE or STALE flag and the bytes of the committed buffer from
the offset on, and changes nothing in the directory. -/
def Obligations.ReadTaken : Prop :=
  ∀ (s : State) (p : Port) (tag : Byte) (i : Slot) (offset length : Byte) (pt : Point), RecordsSound s →
    Passes s p tag (.read i offset length) → s.point i = some pt →
    ∃ (t : State) (flag : Byte) (data : List Byte), exec (.read p i offset length) s = .next t ∧
      Answered s t p tag .read .ok (pt.version.extractLsb' 8 8 :: pt.version.extractLsb' 0 8 :: flag :: data) ∧
      (pt.state = .live ∧ flag = 0x02 ∨ pt.state = .stale ∧ flag = 0x03) ∧
      data.length = length.toNat ∧ (∀ k, k < length.toNat → data[k]? = pt.committed[offset.toNat + k]?) ∧ DirectoryKept s t

/-- A taken SCAN that passes its refusal reports, in index order, the first entries whose key is beyond "after" and agrees with the key in
every bit the mask holds, up to the count, each with its point's state and, for a reader, its version; "more" is set exactly when a
further such entry follows. -/
def Obligations.ScanTaken : Prop :=
  ∀ (s : State) (p : Port) (tag : Byte) (key mask : Key) (after : Option Key) (count : BitVec 3) (found : List (Key × Slot)),
    IndexExact s → Passes s p tag (.scan key mask after count) →
    found.Sublist s.dir.index →
    (∀ e ∈ s.dir.index, e ∈ found ↔
      (∀ b, b < 24 → mask.getLsbD b = true → e.1.getLsbD b = key.getLsbD b) ∧ (∀ a, after = some a → a < e.1)) →
    ∃ t, exec (.scan p key mask after count) s = .next t ∧ DirectoryKept s t ∧
      Answered s t p tag .scan .ok
        (BitVec.ofNat 8 (min found.length count.toNat) :: (if count.toNat < found.length then 0x01 else 0x00) ::
          (found.take count.toNat).flatMap fun e =>
            [e.1.extractLsb' 16 8, e.1.extractLsb' 8 8, e.1.extractLsb' 0 8, BitVec.ofNat 8 e.2.val] ++
            (match s.point e.2 with
              | none => []
              | some pt =>
                if pt.isReader p then [pt.state.code ||| 0x80, pt.version.extractLsb' 8 8, pt.version.extractLsb' 0 8]
                else [pt.state.code, 0, 0]))

/-! ## CREATE and the publishing commands -/

/-- A taken CREATE that passes its refusals fills the lowest FREE slot with a VACANT point of version 0 and zeroed buffers, takes its granules,
and puts its entry into the index at its key's place; it arms no deadline and offers no notice. -/
def Obligations.CreateTaken : Prop :=
  ∀ (s : State) (p : Port) (tag : Byte) (key : Key) (width : Byte) (readers : PortSet) (fresh : BitVec 16), IndexExact s →
    Passes s p tag (.create key width readers fresh) →
    ∃ (t : State) (i : Slot), exec (.create p key width readers fresh) s = .next t ∧
      Answered s t p tag .create .ok [BitVec.ofNat 8 i.val] ∧
      s.point i = none ∧ (∀ j, j < i → (s.point j).isSome) ∧
      t.point i = some { state := .vacant, key := key, owner := p, width := width.toNat, readers := readers, fresh := fresh, version := 0
                         committed := List.replicate width.toNat 0, pendingBuf := List.replicate width.toNat 0, updateOpen := false
                         refreshPending := false, orphaned := false, refs := 0 } ∧
      OtherSlotsKept s t i ∧ t.dir.freeGranules + 2 * ((width.toNat + 15) / 16) = s.dir.freeGranules ∧ CountsKept s t ∧
      (∃ below above, s.dir.index = below ++ above ∧ t.dir.index = below ++ (key, i) :: above ∧
        (∀ e ∈ below, e.1 < key) ∧ ∀ e ∈ above, key < e.1) ∧
      t.notices = s.notices ∧ t.timer = s.timer

/-- A taken OPEN that passes its refusals copies the committed buffer into the pending one, sets the flag, raises the count and arms HOLD at the
counter plus HOLDLIM; the answer carries the version. -/
def Obligations.OpenTaken : Prop :=
  ∀ (s : State) (p : Port) (tag : Byte) (i : Slot) (pt : Point), Passes s p tag (.openUpdate i) → s.point i = some pt →
    ∃ t, exec (.openUpdate p i) s = .next t ∧
      Answered s t p tag .openUpdate .ok [pt.version.extractLsb' 8 8, pt.version.extractLsb' 0 8] ∧
      t.point i = some { pt with pendingBuf := pt.committed, updateOpen := true } ∧ OtherSlotsKept s t i ∧ StoreKept s t ∧
      CountIs s t p (s.openUpdates p + 1) ∧ t.notices = s.notices ∧
      DeadlinesAre s t (insertDeadline s.timer.tick
        { slot := i, kind := .hold, dueTick := s.timer.tick + BitVec.ofNat 32 s.timer.holdlim, due := false }
        (s.timer.deadlines.filter fun d => !(d.slot == i && d.kind == .hold)))

/-- A taken WRITE that passes its refusals puts its data bytes into the pending buffer from the offset on, in frame order, and changes
nothing else: not the other bytes, the committed buffer, the version, a flag, a deadline or a queue. -/
def Obligations.WriteTaken : Prop :=
  ∀ (s : State) (p : Port) (tag : Byte) (i : Slot) (offset : Byte) (data : List Byte) (pt : Point), RecordsSound s →
    Passes s p tag (.write i offset data) → s.point i = some pt →
    ∃ (t : State) (buf : List Byte), exec (.write p i offset data) s = .next t ∧ Answered s t p tag .write .ok [] ∧
      t.point i = some { pt with pendingBuf := buf } ∧ buf.length = pt.width ∧
      (∀ k, buf[k]? =
        if offset.toNat ≤ k ∧ k < offset.toNat + data.length then data[k - offset.toNat]? else pt.pendingBuf[k]?) ∧
      OtherSlotsKept s t i ∧ StoreKept s t ∧ CountsKept s t ∧ t.notices = s.notices ∧ t.timer = s.timer

/-- A taken COMMIT that passes its refusals: the chains exchange roles, the version advances, the point is LIVE with no refresh pending and no
update open, the count falls, HOLD is removed and FRESH armed anew, and CHANGED with the new version is routed. -/
def Obligations.CommitTaken : Prop :=
  ∀ (s : State) (p : Port) (tag : Byte) (i : Slot) (pt : Point), Passes s p tag (.commit i) → s.point i = some pt →
    ∃ (t : State) (v : Version) (mk : FilterNo → Notice), exec (.commit p i) s = .next t ∧
      v = (pt.republished pt.pendingBuf 0).version ∧ (∀ f, mk f = .changed i pt.key v f false) ∧
      Answered s t p tag .commit .ok [v.extractLsb' 8 8, v.extractLsb' 0 8] ∧
      t.point i = some (pt.republished pt.pendingBuf (s.deliveries pt .changed mk)) ∧ OtherSlotsKept s t i ∧ StoreKept s t ∧
      CountIs s t p (s.openUpdates p - 1) ∧ FiltersKept s t ∧ QueuesAre t (fun q => (s.delivery pt .changed mk q).1) ∧
      DeadlinesAre s t (s.freshArmed i pt (s.timer.deadlines.filter fun d => d.slot != i))

/-- A taken DISCARD that passes its refusals clears the flag, lowers the count and removes HOLD, and changes nothing else. -/
def Obligations.DiscardTaken : Prop :=
  ∀ (s : State) (p : Port) (tag : Byte) (i : Slot) (pt : Point), Passes s p tag (.discard i) → s.point i = some pt →
    ∃ t, exec (.discard p i) s = .next t ∧ Answered s t p tag .discard .ok [] ∧
      t.point i = some { pt with updateOpen := false } ∧ OtherSlotsKept s t i ∧ StoreKept s t ∧ CountIs s t p (s.openUpdates p - 1) ∧
      t.notices = s.notices ∧ DeadlinesAre s t (s.timer.deadlines.filter fun d => !(d.slot == i && d.kind == .hold))

/-- A taken PUT that passes its refusals commits the old value with the data bytes in place from the offset on: everything of a COMMIT but the
steps that concern an open update. -/
def Obligations.PutTaken : Prop :=
  ∀ (s : State) (p : Port) (tag : Byte) (i : Slot) (offset : Byte) (data : List Byte) (pt : Point), RecordsSound s →
    Passes s p tag (.put i offset data) → s.point i = some pt →
    ∃ (t : State) (buf : List Byte) (v : Version) (mk : FilterNo → Notice), exec (.put p i offset data) s = .next t ∧
      buf.length = pt.width ∧
      (∀ k, buf[k]? =
        if offset.toNat ≤ k ∧ k < offset.toNat + data.length then data[k - offset.toNat]? else pt.committed[k]?) ∧
      v = (pt.republished buf 0).version ∧ (∀ f, mk f = .changed i pt.key v f false) ∧
      Answered s t p tag .put .ok [v.extractLsb' 8 8, v.extractLsb' 0 8] ∧
      t.point i = some (pt.republished buf (s.deliveries pt .changed mk)) ∧ OtherSlotsKept s t i ∧ StoreKept s t ∧ CountsKept s t ∧
      FiltersKept s t ∧ QueuesAre t (fun q => (s.delivery pt .changed mk q).1) ∧
      DeadlinesAre s t (s.freshArmed i pt (s.timer.deadlines.filter fun d => !(d.slot == i && d.kind == .fresh)))

/-- A taken REFRESH that passes its refusals: with the flag clear it is set and REFRESH is offered to the owner; with the flag set nothing
is offered. The answer says which. -/
def Obligations.RefreshTaken : Prop :=
  ∀ (s : State) (p : Port) (tag : Byte) (i : Slot) (pt : Point), Passes s p tag (.refresh i) → s.point i = some pt →
    ∃ t, exec (.refresh p i) s = .next t ∧
      (pt.refreshPending = true → Answered s t p tag .refresh .ok [0x02] ∧ DirectoryKept s t) ∧
      (pt.refreshPending = false →
        Answered s t p tag .refresh .ok [0x01] ∧
        t.point i = some { pt with refreshPending := true
                                   refs := pt.refs +
                                     if (s.offered pt.owner (.refresh i pt.key false) pt.owner).2 then 1 else 0 } ∧
        OtherSlotsKept s t i ∧ StoreKept s t ∧ CountsKept s t ∧ FiltersKept s t ∧
        QueuesAre t (fun q => (s.offered pt.owner (.refresh i pt.key false) q).1) ∧ t.timer = s.timer)

/-! ## Watching -/

/-- A taken WATCH or UNWATCH that passes its refusals sets, or resets, the filter of that number in the asking port's table, and changes no
other filter, no queue and nothing in the directory. -/
def Obligations.FiltersTaken : Prop :=
  ∀ (s : State) (p : Port) (tag number : Byte) (key mask : Key) (kinds : KindSet),
    (Passes s p tag (.watch number key mask kinds) →
      ∃ (t : State) (f : FilterNo), exec (.watch p number key mask kinds) s = .next t ∧ f.val = number.toNat ∧
        Answered s t p tag .watch .ok [] ∧
        (t.filters p).get f = { inUse := true, key := key, mask := mask, kinds := kinds } ∧
        (∀ g, g ≠ f → (t.filters p).get g = (s.filters p).get g) ∧ (∀ q, q ≠ p → t.filters q = s.filters q) ∧
        QueuesAre t s.queue ∧ t.dir = s.dir ∧ t.timer = s.timer) ∧
    (Passes s p tag (.unwatch number) →
      ∃ (t : State) (f : FilterNo), exec (.unwatch p number) s = .next t ∧ f.val = number.toNat ∧
        Answered s t p tag .unwatch .ok [] ∧
        (t.filters p).get f = { inUse := false, key := 0, mask := 0, kinds := 0 } ∧
        (∀ g, g ≠ f → (t.filters p).get g = (s.filters p).get g) ∧ (∀ q, q ≠ p → t.filters q = s.filters q) ∧
        QueuesAre t s.queue ∧ t.dir = s.dir ∧ t.timer = s.timer)

/-- A taken TAKE that passes its refusal removes the oldest entries, up to the count, and answers with how many, how many are left, and their
records; the counts of the slots they name fall, and a RETIRING slot whose count reaches 0 is FREE. -/
def Obligations.TakeTaken : Prop :=
  ∀ (s : State) (p : Port) (tag count : Byte), Passes s p tag (.take count) →
    ∃ (t : State) (gone left : List Notice), exec (.take p count) s = .next t ∧
      s.queue p = gone ++ left ∧ gone.length = min count.toNat (s.queue p).length ∧
      Answered s t p tag .take .ok (BitVec.ofNat 8 gone.length :: BitVec.ofNat 8 left.length :: gone.flatMap Notice.encode) ∧
      QueuesAre t (fun q => if q = p then left else s.queue q) ∧ FiltersKept s t ∧
      (∀ i, t.point i = drained (s.point i) (namedIn gone i)) ∧ IndexDrained s t ∧ t.dir.freeGranules = s.dir.freeGranules ∧
      CountsKept s t ∧ t.timer = s.timer

/-- To which ports a filter-routed event goes, by which filter, and what it does to the queues and the reference counts: the lowest-numbered
filter that matches, on a port that is a reader and neither SEVERED nor sever-pending. -/
def Obligations.EventsRouted : Prop :=
  ∀ (s : State) (i : Slot) (k : WatchKind) (mk : FilterNo → Notice) (pt : Point), (∀ f, (mk f).slot? = some i) →
    s.point i = some pt →
    (∀ p f, s.routeFilter pt k p = some f ↔
      (s.record p).standing ≠ .severed ∧ (s.record p).severPending = false ∧ (pt.owner = p ∨ pt.readers.getLsbD p.val = true) ∧
      s.filterMatches p f k pt.key ∧ ∀ g, g < f → ¬s.filterMatches p g k pt.key) ∧
    (∀ p f, s.routeFilter pt k p = some f → (s.route i k mk).queue p = (offerQueue (s.queue p) (mk f)).1) ∧
    (∀ p, s.routeFilter pt k p = none → (s.route i k mk).queue p = s.queue p) ∧
    (s.route i k mk).point i = some { pt with refs := pt.refs + s.deliveries pt k mk } ∧ OtherSlotsKept s (s.route i k mk) i

/-- A notice offered to a queue that does not withhold it: merged into the entry of its kind and subject if there is one, which keeps its
place, slot, key and port, takes the notice's version, owner, filter or standing, and has its overrun flag set; else appended at 0 to 14
entries; else a GAP is placed at 15 not ending in a GAP; else dropped. The queue stays as R77 and R78 allow. -/
def Obligations.NoticesOffered : Prop :=
  ∀ (q : List Notice) (n : Notice), QueueSound q → n ≠ .gap →
    (∀ before e after, q = before ++ e :: after → e.kindNo = n.kindNo → e.slot? = n.slot? → e.port? = n.port? →
      ∃ m, Merges e n m ∧ offerQueue q n = (before ++ m :: after, false)) ∧
    (∀ before e after m, q = before ++ e :: after → Merges e n m → offerQueue q n = (before ++ m :: after, false)) ∧
    ((∀ e ∈ q, ¬(e.kindNo = n.kindNo ∧ e.slot? = n.slot? ∧ e.port? = n.port?)) →
      (q.length ≤ 14 → offerQueue q n = (q ++ [n], true)) ∧
      (q.length = 15 → q.getLast? ≠ some .gap → offerQueue q n = (q ++ [.gap], false)) ∧
      (q.length = 15 → q.getLast? = some .gap → offerQueue q n = (q, false)) ∧
      (q.length = 16 → offerQueue q n = (q, false))) ∧
    QueueSound (offerQueue q n).1 ∧
    ∀ (s : State) (p : Port), s.mute p = true → s.offer p n = s

/-! ## Retirement and ownership -/

/-- A taken RETIRE that passes its refusals: the point's update closed, its deadlines removed, refresh pending and orphaned cleared, its
granules returned, RETIRED routed with its version; with no entry then naming the slot it is FREE, otherwise RETIRING with the
count answered. -/
def Obligations.RetireTaken : Prop :=
  ∀ (s : State) (p : Port) (tag : Byte) (i : Slot) (pt : Point) (n : Nat) (mk : FilterNo → Notice), DeadlinesExact s →
    Passes s p tag (.retire i) → s.point i = some pt → (∀ f, mk f = .retired i pt.key pt.version f false) →
    n = pt.refs + s.deliveries pt .retired mk →
    ∃ t, exec (.retire p i) s = .next t ∧
      Answered s t p tag .retire .ok (if n = 0 then [0x00, 0x00] else [0x04, BitVec.ofNat 8 n]) ∧
      t.point i = (if n = 0 then none else some
        { pt with state := .retiring, updateOpen := false, refreshPending := false, orphaned := false, committed := [], pendingBuf := []
                  refs := n }) ∧
      OtherSlotsKept s t i ∧ t.dir.freeGranules = s.dir.freeGranules + 2 * ((pt.width + 15) / 16) ∧
      t.dir.index = (if n = 0 then s.dir.index.filter fun e => e.2 != i else s.dir.index) ∧
      (if pt.updateOpen then CountIs s t pt.owner (s.openUpdates pt.owner - 1) else CountsKept s t) ∧ FiltersKept s t ∧
      QueuesAre t (fun q => (s.delivery pt .retired mk q).1) ∧ DeadlinesAre s t (s.timer.deadlines.filter fun d => d.slot != i)

/-- A taken REASSIGN that passes its refusals: an open update is closed and EXPIRED offered to the old owner, the owner is replaced, orphaned
cleared, REFRESH offered to the new owner while refresh is pending, and OWNER routed with the new owner; the answer names the old. -/
def Obligations.ReassignTaken : Prop :=
  ∀ (s : State) (p target : Port) (tag : Byte) (i : Slot) (pt : Point), Passes s p tag (.reassign i (BitVec.ofNat 8 target.val)) →
    s.point i = some pt →
    ∃ t, exec (.reassign p i (BitVec.ofNat 8 target.val)) s = .next t ∧
      Answered s t p tag .reassign .ok [BitVec.ofNat 8 pt.owner.val] ∧
      t.point i = some { pt with
        owner := target, updateOpen := false, orphaned := false
        refs := pt.refs + (allPorts.map fun r => (offerMany (s.queue r) (s.reassignNotices i pt target r)).2).sum } ∧
      OtherSlotsKept s t i ∧ StoreKept s t ∧
      (if pt.updateOpen then CountIs s t pt.owner (s.openUpdates pt.owner - 1) else CountsKept s t) ∧ FiltersKept s t ∧
      QueuesAre t (fun r => (offerMany (s.queue r) (s.reassignNotices i pt target r)).1) ∧
      DeadlinesAre s t (if pt.updateOpen then s.timer.deadlines.filter fun d => !(d.slot == i && d.kind == .hold)
        else s.timer.deadlines)

/-- A taken FLUSH that passes its refusals empties the target's queue and answers with the entries removed and the slots freed; the counts of
the slots named fall, and a RETIRING slot whose count reaches 0 is FREE. -/
def Obligations.FlushTaken : Prop :=
  ∀ (s : State) (p target : Port) (tag : Byte), Passes s p tag (.flush (BitVec.ofNat 8 target.val)) →
    ∃ t, exec (.flush p (BitVec.ofNat 8 target.val)) s = .next t ∧
      Answered s t p tag .flush .ok [BitVec.ofNat 8 (s.queue target).length, BitVec.ofNat 8 (s.freedIn t)] ∧
      QueuesAre t (fun q => if q = target then [] else s.queue q) ∧ FiltersKept s t ∧
      (∀ i, t.point i = drained (s.point i) (namedIn (s.queue target) i)) ∧ IndexDrained s t ∧
      t.dir.freeGranules = s.dir.freeGranules ∧ CountsKept s t ∧ t.timer = s.timer

/-! ## Time -/

/-- A taken TIMING: NOT_SUPERVISOR from another port, RANGE for a HOLDLIM of 0 or above 4095, and neither changes a value; otherwise TICKDIV and
HOLDLIM take the new values, the sub-tick count returns to 0, and the counter and every armed deadline stay. -/
def Obligations.TimingTaken : Prop :=
  ∀ (s : State) (p : Port) (tag tickdiv : Byte) (holdlim : BitVec 16), Taken s p tag (.timing tickdiv holdlim) →
    ∃ t, exec (.timing p tickdiv holdlim) s = .next t ∧
      (p ≠ s.supervisor → Answered s t p tag .timing .notSupervisor [] ∧ DirectoryKept s t) ∧
      (p = s.supervisor → (holdlim.toNat = 0 ∨ 4095 < holdlim.toNat) → Answered s t p tag .timing .range [] ∧ DirectoryKept s t) ∧
      (p = s.supervisor → 1 ≤ holdlim.toNat → holdlim.toNat ≤ 4095 →
        Answered s t p tag .timing .ok [] ∧ t.dir = s.dir ∧ t.notices = s.notices ∧
        t.timer = { s.timer with tickdiv := tickdiv, holdlim := holdlim.toNat, subTick := 0 })

/-- A TICK in RUNNING: the counter advances by one, wrapping, the sub-tick count is 0 and every entry whose due tick the counter reaches is
due; that it completes the tick whatever the sub-tick count stands at is the model's reading of R91 (log 4). An EXPIRY_REQUEST with a due entry
at the head and none presented: the timer unit presents the head's slot and kind. Nothing else changes. -/
def Obligations.TicksAndExpiryRequests : Prop :=
  ∀ s : State,
    (s.supply.state = .running →
      ∃ t, exec .tick s = .next t ∧ t = { s with timer := t.timer } ∧
        t.timer.tick.toNat = (s.timer.tick.toNat + 1) % 4294967296 ∧ t.timer.subTick = 0 ∧ t.timer.tickdiv = s.timer.tickdiv ∧
        t.timer.holdlim = s.timer.holdlim ∧ t.timer.request = s.timer.request ∧
        t.timer.deadlines = s.timer.deadlines.map fun d =>
          if d.dueTick = t.timer.tick then { d with due := true } else d) ∧
    (∀ d l, s.timer.request = none → s.timer.deadlines = d :: l → d.due = true →
      exec .expiryRequest s = .next { s with timer := { s.timer with request := some (d.slot, d.kind) } })

/-- A granted FRESH expiry: with a due entry the LIVE point becomes STALE, the entry leaves and STALE is routed with the point's version;
with none, or one not yet due, the request is dropped with no effect but the grant. -/
def Obligations.FreshExpiryTaken : Prop :=
  ∀ (s : State) (i : Slot), s.timer.request = some (i, .fresh) → s.nextGrant = some .timer →
    (DeadlinesExact s → (∃ d ∈ s.timer.deadlines, d.slot = i ∧ d.kind = .fresh ∧ d.due = true) →
      ∃ (t : State) (pt : Point) (mk : FilterNo → Notice), exec (.freshExpiry i) s = .next t ∧ s.point i = some pt ∧ pt.state = .live ∧
        (∀ f, mk f = .stale i pt.key pt.version f false) ∧
        t.point i = some { pt with state := .stale, refs := pt.refs + s.deliveries pt .stale mk } ∧ OtherSlotsKept s t i ∧
        StoreKept s t ∧ CountsKept s t ∧ FiltersKept s t ∧ QueuesAre t (fun q => (s.delivery pt .stale mk q).1) ∧
        t.timer = { s.timer with
          request := none, deadlines := s.timer.deadlines.filter fun d => !(d.slot == i && d.kind == .fresh) } ∧
        TimerGranted s t) ∧
    ((∀ d ∈ s.timer.deadlines, d.slot = i → d.kind = .fresh → d.due = false) →
      exec (.freshExpiry i) s = .next { s with timer := { s.timer with request := none }, lastGrant := .timer })

/-- A granted HOLD expiry: with a due entry the update is closed, the entry leaves, the owner's count falls and EXPIRED is offered to the owner;
with none, or one not yet due, the request is dropped with no effect but the grant. -/
def Obligations.HoldExpiryTaken : Prop :=
  ∀ (s : State) (i : Slot), s.timer.request = some (i, .hold) → s.nextGrant = some .timer →
    (DeadlinesExact s → (∃ d ∈ s.timer.deadlines, d.slot = i ∧ d.kind = .hold ∧ d.due = true) →
      ∃ (t : State) (pt : Point), exec (.holdExpiry i) s = .next t ∧ s.point i = some pt ∧ pt.updateOpen = true ∧
        t.point i = some { pt with updateOpen := false
                                   refs := pt.refs +
                                     if (s.offered pt.owner (.expired i pt.key false) pt.owner).2 then 1 else 0 } ∧
        OtherSlotsKept s t i ∧ StoreKept s t ∧ CountIs s t pt.owner (s.openUpdates pt.owner - 1) ∧ FiltersKept s t ∧
        QueuesAre t (fun q => (s.offered pt.owner (.expired i pt.key false) q).1) ∧
        t.timer = { s.timer with
          request := none, deadlines := s.timer.deadlines.filter fun d => !(d.slot == i && d.kind == .hold) } ∧
        TimerGranted s t) ∧
    ((∀ d ∈ s.timer.deadlines, d.slot = i → d.kind = .hold → d.due = false) →
      exec (.holdExpiry i) s = .next { s with timer := { s.timer with request := none }, lastGrant := .timer })

/-! ## Standing -/

/-- What an outcome does to a port's record: the score moves by the table of R129 within its range, the standing is the band of the new score,
255 sets sever pending, and a change of band sets report pending; a mute or RESTORING port's record does not move. -/
def Obligations.OutcomeScored : Prop :=
  ∀ (r : StandingRec) (isSup : Bool) (st : Status), r.sound isSup →
    ((r.severPending = true ∨ r.standing = .severed ∨ r.standing = .restoring) → r.after isSup st = r) ∧
    (r.severPending = false → r.standing ≠ .severed → r.standing ≠ .restoring →
      ((r.after isSup st).score : Int) = max 0 (min (if isSup then 254 else 255) (r.score + scoreChange st)) ∧
      (r.after isSup st).standing =
        (if (r.after isSup st).score ≤ 95 then .good else if (r.after isSup st).score ≤ 159 then .warned else .restricted) ∧
      ((r.after isSup st).severPending = true ↔ (r.after isSup st).score = 255) ∧
      ((r.after isSup st).reportPending = true ↔ r.reportPending = true ∨ (r.after isSup st).standing ≠ r.standing)) ∧
    (r.after isSup st).sound isSup

/-- A taken RESTORE of a SEVERED port that passes its refusals: the target stands RESTORING with its score kept and restore count 0, and
STANDING is offered to the supervisor port. -/
def Obligations.RestoreTaken : Prop :=
  ∀ (s : State) (p target : Port) (tag : Byte), StandingSound s → Passes s p tag (.restore (BitVec.ofNat 8 target.val)) →
    ∃ t, exec (.restore p (BitVec.ofNat 8 target.val)) s = .next t ∧ p = s.supervisor ∧ target ≠ p ∧
      t.record target = { s.record target with standing := .restoring } ∧
      t.engine target = { s.engine target with restoreCount := 0 } ∧
      Answered ((s.setRecord target { s.record target with standing := .restoring }).setEngine target
        { s.engine target with restoreCount := 0 }) t p tag .restore .ok [] ∧
      t.dir = s.dir ∧ t.timer = s.timer ∧ FiltersKept s t ∧ QueuesAre t (fun q => (s.offered p (.standing target .restoring false) q).1)

/-- A granted sever operation, in the order of R138: the port SEVERED, its updates closed with no EXPIRED, its living points orphaned, its queue
flushed, its filters, hold and attention enable cleared; then OWNER with no owner for each orphaned point, and STANDING last. -/
def Obligations.SeverTaken : Prop :=
  ∀ (s : State) (p : Port), s.standing.request = some (.sever p) → s.nextGrant = some .standing → (s.record p).severPending = true →
    ∃ t, exec (.sever p) s = .next t ∧ StandingGranted s t p ∧
      t.record p = { s.record p with standing := .severed, severPending := false, reportPending := false } ∧
      t.engine p = { s.engine p with hold := none, attention := false } ∧
      (∀ i pt, s.point i = some pt → pt.state = .retiring →
        t.point i = drained (some (pt.severed p)) (namedIn (s.queue p) i)) ∧
      (∀ i pt, s.point i = some pt → pt.state ≠ .retiring → ∃ n, t.point i = some { pt.severed p with refs := n }) ∧
      (∀ i, s.point i = none → t.point i = none) ∧
      IndexDrained s t ∧ t.dir.freeGranules = s.dir.freeGranules ∧ CountIs s t p 0 ∧
      (∀ q, t.filters q = if q = p then Vector.replicate 8 Filter.unused else s.filters q) ∧
      QueuesAre t (fun q => if q = p then [] else
        (offerMany (s.queue q) (s.ownerNotices (s.livingSlots p) none q ++ s.standingNotices p .severed q)).1) ∧
      DeadlinesAre s t (s.timer.deadlines.filter fun d =>
        !(d.kind == .hold && s.holds d.slot fun pt => pt.owner == p && pt.updateOpen))

/-- A granted restoration-complete operation, in the order of R144: the port GOOD with score 0 and restore count 0, its orphaned points its own
again with OWNER naming it for each, and STANDING last. -/
def Obligations.RestorationCompleted : Prop :=
  ∀ (s : State) (p : Port), s.standing.request = some (.restored p) → s.nextGrant = some .standing →
    (s.record p).standing = .restoring →
    ∃ t, exec (.restorationComplete p) s = .next t ∧ StandingGranted s t p ∧
      t.record p = { s.record p with standing := .good, score := 0, reportPending := false } ∧
      t.engine p = { s.engine p with restoreCount := 0 } ∧
      (∀ i pt, s.point i = some pt → pt.owner = p → pt.orphaned = true → ∃ n, t.point i = some { pt with orphaned := false, refs := n }) ∧
      (∀ i, (s.holds i fun pt => pt.owner == p && pt.orphaned) = false → t.point i = s.point i) ∧
      StoreKept s t ∧ CountsKept s t ∧ FiltersKept s t ∧ t.timer = s.timer ∧
      QueuesAre t (fun q =>
        (offerMany (s.queue q) (s.ownerNotices (s.orphanSlots p) (some p) q ++ s.standingNotices p .good q)).1)

/-- A granted standing-change operation: STANDING with the port's standing of this moment is offered to the supervisor port, and report pending
is cleared. -/
def Obligations.StandingReported : Prop :=
  ∀ (s : State) (p : Port), s.standing.request = some (.change p) → s.nextGrant = some .standing →
    ∃ t, exec (.standingChange p) s = .next t ∧ StandingGranted s t p ∧ t.record p = { s.record p with reportPending := false } ∧
      t.engine p = s.engine p ∧ t.dir = s.dir ∧ t.timer = s.timer ∧ FiltersKept s t ∧
      QueuesAre t (fun q => (s.offered s.supervisor (.standing p (s.record p).standing false) q).1)

/-! ## Supply -/

/-- What every block holds after a reset of any cause: all slots FREE, the store whole, queues empty, filters unused, the timer, the standing
unit, the arbiter and the engines at their reset values, a select period under way FFh to its end, and the latched straps as the strap inputs
are (R162, R177; that the inputs stay at the levels last reported is log 7). -/
def Obligations.ResetEntered : Prop :=
  ∀ (s : State) (c : Instr),
    (c = .powerOnReset ∨ c = .pinReset ∨
      (c = .supplyReset ∧ (s.supply.state = .running ∨ s.supply.state = .settling) ∧ s.supply.swm = .reset)) →
    ∃ t, exec c s = .next t ∧ t.supply.state = .reset ∧ t.supply.settleTime = 0 ∧ t.pending = s.pending ∧
      t.supply.supStraps = s.supply.supStraps ∧ t.supply.swmStrap = s.supply.swmStrap ∧
      t.supply.sup.val = (if s.supply.supStraps.getLsbD 1 then 2 else 0) + (if s.supply.supStraps.getLsbD 0 then 1 else 0) ∧
      t.supply.swm = (if s.supply.swmStrap then .reset else .freeze) ∧
      (∀ i, t.point i = none) ∧ t.dir.index = [] ∧ t.dir.freeGranules = 1024 ∧
      t.timer = { tickdiv := 9, holdlim := 200, subTick := 0, tick := 0, deadlines := [], request := none } ∧
      t.lastGrant = .standing ∧ t.standing.request = none ∧ t.standing.lastPort = 3 ∧
      ∀ p, t.openUpdates p = 0 ∧ t.queue p = [] ∧ (∀ f, (t.filters p).get f = { inUse := false, key := 0, mask := 0, kinds := 0 }) ∧
        t.record p = { score := 0, standing := .good, severPending := false, reportPending := false } ∧ t.attentionLine p = false ∧
        t.engine p = { link := .idle, period := if (s.engine p).period = .high then .high else .blank, answer := none, request := none
                       hold := none, attention := false, restoreCount := 0, received := 0, assembled := [] }

/-- Release, settling and recovery: RESET_RELEASE latches the straps (SUP1 the more significant bit of the supervisor's number, SWM low FREEZE
and high RESET) and begins SETTLING, SETTLE_END ends it in RUNNING, and a freeze recovers into SETTLING; none of them changes anything but the
supply watch. The model's readings in it: RESET_RELEASE is itself the report that the conditions of R165 hold (log 24), and SETTLE_END that the
2 ms have passed (log 27). -/
def Obligations.SupplyReturns : Prop :=
  ∀ (s : State) (sup : BitVec 2) (swm : Bool),
    (s.supply.state = .reset →
      ∃ t, exec (.resetRelease sup swm) s = .next t ∧ t = { s with supply := t.supply } ∧ t.supply.state = .settling ∧
        t.supply.sup.val = (if sup.getLsbD 1 then 2 else 0) + (if sup.getLsbD 0 then 1 else 0) ∧ t.supply.swm = (if swm then .reset else .freeze) ∧
        t.supply.supStraps = sup ∧ t.supply.swmStrap = swm ∧ t.supply.settleTime = 0) ∧
    (s.supply.state = .settling →
      exec .settleEnd s = .next { s with supply := { s.supply with state := .running, settleTime := 0 } }) ∧
    (s.supply.state = .frozen →
      ∃ t, exec .droopRecovery s = .next t ∧ t = { s with supply := t.supply } ∧ t.supply.state = .settling ∧
        t.supply.sup = s.supply.sup ∧ t.supply.swm = s.supply.swm ∧ t.supply.settleTime = 0)

/-- A droop with SWM latched FREEZE: FROZEN, every presented port request withdrawn and answered HELD with no score and the hold as it was, a
RESTORING port's run broken, and everything else kept. The model's readings in it: a count of 32 stays also here (log 11), and a standing
request that is held is presented at once, while FROZEN too (log 10). -/
def Obligations.FreezeWithdraws : Prop :=
  ∀ s : State, (s.supply.state = .running ∨ s.supply.state = .settling) → s.supply.swm = .freeze →
    ∃ t, exec .droopFreeze s = .next t ∧ t.supply.state = .frozen ∧ t.supply.settleTime = 0 ∧ t.supply.sup = s.supply.sup ∧
      t.supply.swm = s.supply.swm ∧ DirectoryKept s t ∧ t.lastGrant = s.lastGrant ∧ t.pending = s.pending ∧
      t.standing.recs = s.standing.recs ∧ t.standing.lastPort = s.standing.lastPort ∧
      t.standing.request = s.standing.request.or t.heldRequest ∧
      (∀ p, (s.engine p).request = none → t.engine p = s.engine p) ∧
      ∀ p pr, (s.engine p).request = some pr →
        t.engine p = { (s.engine p).leaves (s.mute p) { tag := pr.tag, status := .held, body := [], atCheck := false } with
          restoreCount := runAfter ((s.record p).standing == .restoring) false (s.engine p).restoreCount }

/-! ## Laws that hold at every moment -/

/-- The part right after reset keeps every law below. -/
def Obligations.ResetSound : Prop :=
  StoreAccounted State.reset ∧ IndexExact State.reset ∧ RefsExact State.reset ∧ RecordsSound State.reset ∧
  UpdatesCounted State.reset ∧ DeadlinesExact State.reset ∧ TimerSound State.reset ∧ QueuesSound State.reset ∧
  StandingSound State.reset ∧ LinkSound State.reset ∧ OrphansExact State.reset

/-- Every step keeps the value store accounted for: free granules and the points' granules make 1024. -/
def Obligations.StoreAlwaysAccounted : Prop := ∀ s t : State, StoreAccounted s → step s = .next t → StoreAccounted t

/-- Every step keeps the key index exact and in strictly ascending key order; no two points then hold one key, and its length is 256 less the
FREE slots. -/
def Obligations.IndexAlwaysExact : Prop :=
  (∀ s t : State, IndexExact s → step s = .next t → IndexExact t) ∧
  ∀ s : State, IndexExact s → s.dir.index.length + s.freeSlots = 256

/-- Every step keeps each reference count equal to the queued notices that name the slot, none naming a FREE slot, no slot RETIRING with a
count of 0; with the queues as R77 allows, no count is above 24. -/
def Obligations.RefsAlwaysExact : Prop :=
  (∀ s t : State, RefsExact s → step s = .next t → RefsExact t) ∧
  ∀ s : State, RefsExact s → QueuesSound s → ∀ i pt, s.point i = some pt → pt.refs ≤ 24

/-- Every step keeps every record as R2 allows it in its state. -/
def Obligations.RecordsAlwaysSound : Prop :=
  ∀ s t : State, RecordsSound s → step s = .next t → RecordsSound t

/-- Every step keeps the open-update counts equal to the updates open, at most four a port. -/
def Obligations.UpdatesAlwaysCounted : Prop := ∀ s t : State, UpdatesCounted s → step s = .next t → UpdatesCounted t

/-- Every step keeps a FRESH entry exactly for each LIVE point with an interval and a HOLD entry exactly for each open update. -/
def Obligations.DeadlinesAlwaysExact : Prop := ∀ s t : State, DeadlinesExact s → step s = .next t → DeadlinesExact t

/-- Every step keeps the deadline list in the order of R96, across the wrap of the counter, and the timer's values in range: due entries stand
first and the others by distance, slot and kind (`TimerSound`), and the due ones in the order in which they fell due, those of one tick by slot
and kind (`DueInOrder`). -/
def Obligations.TimerAlwaysSound : Prop := ∀ s t : State, TimerSound s → step s = .next t → TimerSound t ∧ DueInOrder s t

/-- Every step keeps every queue as R77 and R78 allow. -/
def Obligations.QueuesAlwaysSound : Prop := ∀ s t : State, QueuesSound s → step s = .next t → QueuesSound t

/-- Every step keeps the standing of every port that which its score gives, and what the standing unit presents a request it holds: a sever
pending, a RESTORING port at count 32, or a report pending. That it presents nothing only while it holds nothing is the model's reading of R135
(log 10), and that the count stays 32 in every case that of R143 (log 11). -/
def Obligations.StandingAlwaysSound : Prop := ∀ s t : State, StandingSound s → step s = .next t → StandingSound t

/-- Every step keeps every engine in a place R149 gives it: requests in flight in RUNNING alone, none on a SEVERED port. -/
def Obligations.LinkAlwaysSound : Prop := ∀ s t : State, LinkSound s → step s = .next t → LinkSound t

/-- Every step keeps orphaned exactly the living points whose owner stands SEVERED or RESTORING. -/
def Obligations.OrphansAlwaysExact : Prop :=
  ∀ s t : State, StandingSound s → LinkSound s → OrphansExact s → step s = .next t → OrphansExact t

/-- A point keeps its name for life: while a slot holds a point, its key, width, readers and interval stay; its version moves at COMMIT and PUT
alone, its owner at REASSIGN alone; a slot is filled by CREATE alone and freed only from RETIRING, or by RETIRE or a reset. -/
def Obligations.PointsKeepTheirNames : Prop :=
  ∀ (s t : State) (c : Instr) (i : Slot), exec c s = .next t → c ≠ .powerOnReset → c ≠ .pinReset → c ≠ .supplyReset →
    (s.point i = none → t.point i = none ∨ ∃ p key width readers fresh, c = .create p key width readers fresh) ∧
    ∀ pt, s.point i = some pt →
      (∀ qt, t.point i = some qt →
        qt.key = pt.key ∧ qt.width = pt.width ∧ qt.readers = pt.readers ∧ qt.fresh = pt.fresh ∧
        (qt.version = pt.version ∨ c = .commit pt.owner i ∨ ∃ offset data, c = .put pt.owner i offset data) ∧
        (qt.owner = pt.owner ∨ ∃ target, c = .reassign s.supervisor i target) ∧
        (pt.state = .retiring → qt.state = .retiring) ∧ (qt.state = .vacant → pt.state = .vacant)) ∧
      (t.point i = none →
        (pt.state ≠ .retiring ∧ ∃ p, c = .retire p i) ∨
        (pt.state = .retiring ∧ ∃ p x, c = .take p x ∨ c = .flush p x ∨ c = .sever p))
end

