-- ==== Sys2Proof/Laws/State.lean ====
section
/-! SUPPORT. One lemma for each accessor over each update of the state, true by rfl or by what a vector's get and set say, so that no
later proof unfolds a record update. -/

namespace Sys2Proof.Machine

/-! ### `State.setPoint` -/

@[simp] theorem setPoint_openUpdates (s : State) (i : Slot) (x : Option Point) (q' : Port) : (s.setPoint i x).openUpdates q' = s.openUpdates q' := rfl
@[simp] theorem setPoint_index (s : State) (i : Slot) (x : Option Point) : (s.setPoint i x).dir.index = s.dir.index := rfl
@[simp] theorem setPoint_freeGranules (s : State) (i : Slot) (x : Option Point) : (s.setPoint i x).dir.freeGranules = s.dir.freeGranules := rfl
@[simp] theorem setPoint_queue (s : State) (i : Slot) (x : Option Point) (q' : Port) : (s.setPoint i x).queue q' = s.queue q' := rfl
@[simp] theorem setPoint_filters (s : State) (i : Slot) (x : Option Point) (q' : Port) : (s.setPoint i x).filters q' = s.filters q' := rfl
@[simp] theorem setPoint_engine (s : State) (i : Slot) (x : Option Point) (q' : Port) : (s.setPoint i x).engine q' = s.engine q' := rfl
@[simp] theorem setPoint_record (s : State) (i : Slot) (x : Option Point) (q' : Port) : (s.setPoint i x).record q' = s.record q' := rfl
@[simp] theorem setPoint_mute (s : State) (i : Slot) (x : Option Point) (q' : Port) : (s.setPoint i x).mute q' = s.mute q' := rfl
@[simp] theorem setPoint_lastPort (s : State) (i : Slot) (x : Option Point) : (s.setPoint i x).standing.lastPort = s.standing.lastPort := rfl
@[simp] theorem setPoint_request (s : State) (i : Slot) (x : Option Point) : (s.setPoint i x).standing.request = s.standing.request := rfl
@[simp] theorem setPoint_timer (s : State) (i : Slot) (x : Option Point) : (s.setPoint i x).timer = s.timer := rfl
@[simp] theorem setPoint_supply (s : State) (i : Slot) (x : Option Point) : (s.setPoint i x).supply = s.supply := rfl
@[simp] theorem setPoint_supervisor (s : State) (i : Slot) (x : Option Point) : (s.setPoint i x).supervisor = s.supervisor := rfl
@[simp] theorem setPoint_lastGrant (s : State) (i : Slot) (x : Option Point) : (s.setPoint i x).lastGrant = s.lastGrant := rfl
@[simp] theorem setPoint_pending (s : State) (i : Slot) (x : Option Point) : (s.setPoint i x).pending = s.pending := rfl
@[simp] theorem setPoint_notices (s : State) (i : Slot) (x : Option Point) : (s.setPoint i x).notices = s.notices := rfl
@[simp] theorem setPoint_standing (s : State) (i : Slot) (x : Option Point) : (s.setPoint i x).standing = s.standing := rfl
@[simp] theorem setPoint_engines (s : State) (i : Slot) (x : Option Point) : (s.setPoint i x).engines = s.engines := rfl

/-! ### `State.setOpenUpdates` -/

@[simp] theorem setOpenUpdates_point (s : State) (p : Port) (n : Nat) (j : Slot) : (s.setOpenUpdates p n).point j = s.point j := rfl
@[simp] theorem setOpenUpdates_index (s : State) (p : Port) (n : Nat) : (s.setOpenUpdates p n).dir.index = s.dir.index := rfl
@[simp] theorem setOpenUpdates_freeGranules (s : State) (p : Port) (n : Nat) : (s.setOpenUpdates p n).dir.freeGranules = s.dir.freeGranules := rfl
@[simp] theorem setOpenUpdates_queue (s : State) (p : Port) (n : Nat) (q' : Port) : (s.setOpenUpdates p n).queue q' = s.queue q' := rfl
@[simp] theorem setOpenUpdates_filters (s : State) (p : Port) (n : Nat) (q' : Port) : (s.setOpenUpdates p n).filters q' = s.filters q' := rfl
@[simp] theorem setOpenUpdates_engine (s : State) (p : Port) (n : Nat) (q' : Port) : (s.setOpenUpdates p n).engine q' = s.engine q' := rfl
@[simp] theorem setOpenUpdates_record (s : State) (p : Port) (n : Nat) (q' : Port) : (s.setOpenUpdates p n).record q' = s.record q' := rfl
@[simp] theorem setOpenUpdates_mute (s : State) (p : Port) (n : Nat) (q' : Port) : (s.setOpenUpdates p n).mute q' = s.mute q' := rfl
@[simp] theorem setOpenUpdates_lastPort (s : State) (p : Port) (n : Nat) : (s.setOpenUpdates p n).standing.lastPort = s.standing.lastPort := rfl
@[simp] theorem setOpenUpdates_request (s : State) (p : Port) (n : Nat) : (s.setOpenUpdates p n).standing.request = s.standing.request := rfl
@[simp] theorem setOpenUpdates_timer (s : State) (p : Port) (n : Nat) : (s.setOpenUpdates p n).timer = s.timer := rfl
@[simp] theorem setOpenUpdates_supply (s : State) (p : Port) (n : Nat) : (s.setOpenUpdates p n).supply = s.supply := rfl
@[simp] theorem setOpenUpdates_supervisor (s : State) (p : Port) (n : Nat) : (s.setOpenUpdates p n).supervisor = s.supervisor := rfl
@[simp] theorem setOpenUpdates_lastGrant (s : State) (p : Port) (n : Nat) : (s.setOpenUpdates p n).lastGrant = s.lastGrant := rfl
@[simp] theorem setOpenUpdates_pending (s : State) (p : Port) (n : Nat) : (s.setOpenUpdates p n).pending = s.pending := rfl
@[simp] theorem setOpenUpdates_notices (s : State) (p : Port) (n : Nat) : (s.setOpenUpdates p n).notices = s.notices := rfl
@[simp] theorem setOpenUpdates_standing (s : State) (p : Port) (n : Nat) : (s.setOpenUpdates p n).standing = s.standing := rfl
@[simp] theorem setOpenUpdates_engines (s : State) (p : Port) (n : Nat) : (s.setOpenUpdates p n).engines = s.engines := rfl

/-! ### `State.setIndex` -/

@[simp] theorem setIndex_point (s : State) (l : List (Key × Slot)) (j : Slot) : (s.setIndex l).point j = s.point j := rfl
@[simp] theorem setIndex_openUpdates (s : State) (l : List (Key × Slot)) (q' : Port) : (s.setIndex l).openUpdates q' = s.openUpdates q' := rfl
@[simp] theorem setIndex_freeGranules (s : State) (l : List (Key × Slot)) : (s.setIndex l).dir.freeGranules = s.dir.freeGranules := rfl
@[simp] theorem setIndex_queue (s : State) (l : List (Key × Slot)) (q' : Port) : (s.setIndex l).queue q' = s.queue q' := rfl
@[simp] theorem setIndex_filters (s : State) (l : List (Key × Slot)) (q' : Port) : (s.setIndex l).filters q' = s.filters q' := rfl
@[simp] theorem setIndex_engine (s : State) (l : List (Key × Slot)) (q' : Port) : (s.setIndex l).engine q' = s.engine q' := rfl
@[simp] theorem setIndex_record (s : State) (l : List (Key × Slot)) (q' : Port) : (s.setIndex l).record q' = s.record q' := rfl
@[simp] theorem setIndex_mute (s : State) (l : List (Key × Slot)) (q' : Port) : (s.setIndex l).mute q' = s.mute q' := rfl
@[simp] theorem setIndex_lastPort (s : State) (l : List (Key × Slot)) : (s.setIndex l).standing.lastPort = s.standing.lastPort := rfl
@[simp] theorem setIndex_request (s : State) (l : List (Key × Slot)) : (s.setIndex l).standing.request = s.standing.request := rfl
@[simp] theorem setIndex_timer (s : State) (l : List (Key × Slot)) : (s.setIndex l).timer = s.timer := rfl
@[simp] theorem setIndex_supply (s : State) (l : List (Key × Slot)) : (s.setIndex l).supply = s.supply := rfl
@[simp] theorem setIndex_supervisor (s : State) (l : List (Key × Slot)) : (s.setIndex l).supervisor = s.supervisor := rfl
@[simp] theorem setIndex_lastGrant (s : State) (l : List (Key × Slot)) : (s.setIndex l).lastGrant = s.lastGrant := rfl
@[simp] theorem setIndex_pending (s : State) (l : List (Key × Slot)) : (s.setIndex l).pending = s.pending := rfl
@[simp] theorem setIndex_notices (s : State) (l : List (Key × Slot)) : (s.setIndex l).notices = s.notices := rfl
@[simp] theorem setIndex_standing (s : State) (l : List (Key × Slot)) : (s.setIndex l).standing = s.standing := rfl
@[simp] theorem setIndex_engines (s : State) (l : List (Key × Slot)) : (s.setIndex l).engines = s.engines := rfl

/-! ### `State.setFreeGranules` -/

@[simp] theorem setFreeGranules_point (s : State) (n : Nat) (j : Slot) : (s.setFreeGranules n).point j = s.point j := rfl
@[simp] theorem setFreeGranules_openUpdates (s : State) (n : Nat) (q' : Port) : (s.setFreeGranules n).openUpdates q' = s.openUpdates q' := rfl
@[simp] theorem setFreeGranules_index (s : State) (n : Nat) : (s.setFreeGranules n).dir.index = s.dir.index := rfl
@[simp] theorem setFreeGranules_queue (s : State) (n : Nat) (q' : Port) : (s.setFreeGranules n).queue q' = s.queue q' := rfl
@[simp] theorem setFreeGranules_filters (s : State) (n : Nat) (q' : Port) : (s.setFreeGranules n).filters q' = s.filters q' := rfl
@[simp] theorem setFreeGranules_engine (s : State) (n : Nat) (q' : Port) : (s.setFreeGranules n).engine q' = s.engine q' := rfl
@[simp] theorem setFreeGranules_record (s : State) (n : Nat) (q' : Port) : (s.setFreeGranules n).record q' = s.record q' := rfl
@[simp] theorem setFreeGranules_mute (s : State) (n : Nat) (q' : Port) : (s.setFreeGranules n).mute q' = s.mute q' := rfl
@[simp] theorem setFreeGranules_lastPort (s : State) (n : Nat) : (s.setFreeGranules n).standing.lastPort = s.standing.lastPort := rfl
@[simp] theorem setFreeGranules_request (s : State) (n : Nat) : (s.setFreeGranules n).standing.request = s.standing.request := rfl
@[simp] theorem setFreeGranules_timer (s : State) (n : Nat) : (s.setFreeGranules n).timer = s.timer := rfl
@[simp] theorem setFreeGranules_supply (s : State) (n : Nat) : (s.setFreeGranules n).supply = s.supply := rfl
@[simp] theorem setFreeGranules_supervisor (s : State) (n : Nat) : (s.setFreeGranules n).supervisor = s.supervisor := rfl
@[simp] theorem setFreeGranules_lastGrant (s : State) (n : Nat) : (s.setFreeGranules n).lastGrant = s.lastGrant := rfl
@[simp] theorem setFreeGranules_pending (s : State) (n : Nat) : (s.setFreeGranules n).pending = s.pending := rfl
@[simp] theorem setFreeGranules_notices (s : State) (n : Nat) : (s.setFreeGranules n).notices = s.notices := rfl
@[simp] theorem setFreeGranules_standing (s : State) (n : Nat) : (s.setFreeGranules n).standing = s.standing := rfl
@[simp] theorem setFreeGranules_engines (s : State) (n : Nat) : (s.setFreeGranules n).engines = s.engines := rfl

/-! ### `State.setQueue` -/

@[simp] theorem setQueue_point (s : State) (p : Port) (q : List Notice) (j : Slot) : (s.setQueue p q).point j = s.point j := rfl
@[simp] theorem setQueue_openUpdates (s : State) (p : Port) (q : List Notice) (r' : Port) : (s.setQueue p q).openUpdates r' = s.openUpdates r' := rfl
@[simp] theorem setQueue_index (s : State) (p : Port) (q : List Notice) : (s.setQueue p q).dir.index = s.dir.index := rfl
@[simp] theorem setQueue_freeGranules (s : State) (p : Port) (q : List Notice) : (s.setQueue p q).dir.freeGranules = s.dir.freeGranules := rfl
@[simp] theorem setQueue_engine (s : State) (p : Port) (q : List Notice) (r' : Port) : (s.setQueue p q).engine r' = s.engine r' := rfl
@[simp] theorem setQueue_record (s : State) (p : Port) (q : List Notice) (r' : Port) : (s.setQueue p q).record r' = s.record r' := rfl
@[simp] theorem setQueue_mute (s : State) (p : Port) (q : List Notice) (r' : Port) : (s.setQueue p q).mute r' = s.mute r' := rfl
@[simp] theorem setQueue_lastPort (s : State) (p : Port) (q : List Notice) : (s.setQueue p q).standing.lastPort = s.standing.lastPort := rfl
@[simp] theorem setQueue_request (s : State) (p : Port) (q : List Notice) : (s.setQueue p q).standing.request = s.standing.request := rfl
@[simp] theorem setQueue_timer (s : State) (p : Port) (q : List Notice) : (s.setQueue p q).timer = s.timer := rfl
@[simp] theorem setQueue_supply (s : State) (p : Port) (q : List Notice) : (s.setQueue p q).supply = s.supply := rfl
@[simp] theorem setQueue_supervisor (s : State) (p : Port) (q : List Notice) : (s.setQueue p q).supervisor = s.supervisor := rfl
@[simp] theorem setQueue_lastGrant (s : State) (p : Port) (q : List Notice) : (s.setQueue p q).lastGrant = s.lastGrant := rfl
@[simp] theorem setQueue_pending (s : State) (p : Port) (q : List Notice) : (s.setQueue p q).pending = s.pending := rfl
@[simp] theorem setQueue_dir (s : State) (p : Port) (q : List Notice) : (s.setQueue p q).dir = s.dir := rfl
@[simp] theorem setQueue_standing (s : State) (p : Port) (q : List Notice) : (s.setQueue p q).standing = s.standing := rfl
@[simp] theorem setQueue_engines (s : State) (p : Port) (q : List Notice) : (s.setQueue p q).engines = s.engines := rfl

/-! ### `State.setFilters` -/

@[simp] theorem setFilters_point (s : State) (p : Port) (fs : Vector Filter 8) (j : Slot) : (s.setFilters p fs).point j = s.point j := rfl
@[simp] theorem setFilters_openUpdates (s : State) (p : Port) (fs : Vector Filter 8) (q' : Port) : (s.setFilters p fs).openUpdates q' = s.openUpdates q' := rfl
@[simp] theorem setFilters_index (s : State) (p : Port) (fs : Vector Filter 8) : (s.setFilters p fs).dir.index = s.dir.index := rfl
@[simp] theorem setFilters_freeGranules (s : State) (p : Port) (fs : Vector Filter 8) : (s.setFilters p fs).dir.freeGranules = s.dir.freeGranules := rfl
@[simp] theorem setFilters_engine (s : State) (p : Port) (fs : Vector Filter 8) (q' : Port) : (s.setFilters p fs).engine q' = s.engine q' := rfl
@[simp] theorem setFilters_record (s : State) (p : Port) (fs : Vector Filter 8) (q' : Port) : (s.setFilters p fs).record q' = s.record q' := rfl
@[simp] theorem setFilters_mute (s : State) (p : Port) (fs : Vector Filter 8) (q' : Port) : (s.setFilters p fs).mute q' = s.mute q' := rfl
@[simp] theorem setFilters_lastPort (s : State) (p : Port) (fs : Vector Filter 8) : (s.setFilters p fs).standing.lastPort = s.standing.lastPort := rfl
@[simp] theorem setFilters_request (s : State) (p : Port) (fs : Vector Filter 8) : (s.setFilters p fs).standing.request = s.standing.request := rfl
@[simp] theorem setFilters_timer (s : State) (p : Port) (fs : Vector Filter 8) : (s.setFilters p fs).timer = s.timer := rfl
@[simp] theorem setFilters_supply (s : State) (p : Port) (fs : Vector Filter 8) : (s.setFilters p fs).supply = s.supply := rfl
@[simp] theorem setFilters_supervisor (s : State) (p : Port) (fs : Vector Filter 8) : (s.setFilters p fs).supervisor = s.supervisor := rfl
@[simp] theorem setFilters_lastGrant (s : State) (p : Port) (fs : Vector Filter 8) : (s.setFilters p fs).lastGrant = s.lastGrant := rfl
@[simp] theorem setFilters_pending (s : State) (p : Port) (fs : Vector Filter 8) : (s.setFilters p fs).pending = s.pending := rfl
@[simp] theorem setFilters_dir (s : State) (p : Port) (fs : Vector Filter 8) : (s.setFilters p fs).dir = s.dir := rfl
@[simp] theorem setFilters_standing (s : State) (p : Port) (fs : Vector Filter 8) : (s.setFilters p fs).standing = s.standing := rfl
@[simp] theorem setFilters_engines (s : State) (p : Port) (fs : Vector Filter 8) : (s.setFilters p fs).engines = s.engines := rfl

/-! ### `State.setEngine` -/

@[simp] theorem setEngine_point (s : State) (p : Port) (e : Engine) (j : Slot) : (s.setEngine p e).point j = s.point j := rfl
@[simp] theorem setEngine_openUpdates (s : State) (p : Port) (e : Engine) (q' : Port) : (s.setEngine p e).openUpdates q' = s.openUpdates q' := rfl
@[simp] theorem setEngine_index (s : State) (p : Port) (e : Engine) : (s.setEngine p e).dir.index = s.dir.index := rfl
@[simp] theorem setEngine_freeGranules (s : State) (p : Port) (e : Engine) : (s.setEngine p e).dir.freeGranules = s.dir.freeGranules := rfl
@[simp] theorem setEngine_queue (s : State) (p : Port) (e : Engine) (q' : Port) : (s.setEngine p e).queue q' = s.queue q' := rfl
@[simp] theorem setEngine_filters (s : State) (p : Port) (e : Engine) (q' : Port) : (s.setEngine p e).filters q' = s.filters q' := rfl
@[simp] theorem setEngine_record (s : State) (p : Port) (e : Engine) (q' : Port) : (s.setEngine p e).record q' = s.record q' := rfl
@[simp] theorem setEngine_mute (s : State) (p : Port) (e : Engine) (q' : Port) : (s.setEngine p e).mute q' = s.mute q' := rfl
@[simp] theorem setEngine_lastPort (s : State) (p : Port) (e : Engine) : (s.setEngine p e).standing.lastPort = s.standing.lastPort := rfl
@[simp] theorem setEngine_request (s : State) (p : Port) (e : Engine) : (s.setEngine p e).standing.request = s.standing.request := rfl
@[simp] theorem setEngine_timer (s : State) (p : Port) (e : Engine) : (s.setEngine p e).timer = s.timer := rfl
@[simp] theorem setEngine_supply (s : State) (p : Port) (e : Engine) : (s.setEngine p e).supply = s.supply := rfl
@[simp] theorem setEngine_supervisor (s : State) (p : Port) (e : Engine) : (s.setEngine p e).supervisor = s.supervisor := rfl
@[simp] theorem setEngine_lastGrant (s : State) (p : Port) (e : Engine) : (s.setEngine p e).lastGrant = s.lastGrant := rfl
@[simp] theorem setEngine_pending (s : State) (p : Port) (e : Engine) : (s.setEngine p e).pending = s.pending := rfl
@[simp] theorem setEngine_dir (s : State) (p : Port) (e : Engine) : (s.setEngine p e).dir = s.dir := rfl
@[simp] theorem setEngine_notices (s : State) (p : Port) (e : Engine) : (s.setEngine p e).notices = s.notices := rfl
@[simp] theorem setEngine_standing (s : State) (p : Port) (e : Engine) : (s.setEngine p e).standing = s.standing := rfl

/-! ### `State.setRecord` -/

@[simp] theorem setRecord_point (s : State) (p : Port) (r : StandingRec) (j : Slot) : (s.setRecord p r).point j = s.point j := rfl
@[simp] theorem setRecord_openUpdates (s : State) (p : Port) (r : StandingRec) (q' : Port) : (s.setRecord p r).openUpdates q' = s.openUpdates q' := rfl
@[simp] theorem setRecord_index (s : State) (p : Port) (r : StandingRec) : (s.setRecord p r).dir.index = s.dir.index := rfl
@[simp] theorem setRecord_freeGranules (s : State) (p : Port) (r : StandingRec) : (s.setRecord p r).dir.freeGranules = s.dir.freeGranules := rfl
@[simp] theorem setRecord_queue (s : State) (p : Port) (r : StandingRec) (q' : Port) : (s.setRecord p r).queue q' = s.queue q' := rfl
@[simp] theorem setRecord_filters (s : State) (p : Port) (r : StandingRec) (q' : Port) : (s.setRecord p r).filters q' = s.filters q' := rfl
@[simp] theorem setRecord_engine (s : State) (p : Port) (r : StandingRec) (q' : Port) : (s.setRecord p r).engine q' = s.engine q' := rfl
@[simp] theorem setRecord_lastPort (s : State) (p : Port) (r : StandingRec) : (s.setRecord p r).standing.lastPort = s.standing.lastPort := rfl
@[simp] theorem setRecord_request (s : State) (p : Port) (r : StandingRec) : (s.setRecord p r).standing.request = s.standing.request := rfl
@[simp] theorem setRecord_timer (s : State) (p : Port) (r : StandingRec) : (s.setRecord p r).timer = s.timer := rfl
@[simp] theorem setRecord_supply (s : State) (p : Port) (r : StandingRec) : (s.setRecord p r).supply = s.supply := rfl
@[simp] theorem setRecord_supervisor (s : State) (p : Port) (r : StandingRec) : (s.setRecord p r).supervisor = s.supervisor := rfl
@[simp] theorem setRecord_lastGrant (s : State) (p : Port) (r : StandingRec) : (s.setRecord p r).lastGrant = s.lastGrant := rfl
@[simp] theorem setRecord_pending (s : State) (p : Port) (r : StandingRec) : (s.setRecord p r).pending = s.pending := rfl
@[simp] theorem setRecord_dir (s : State) (p : Port) (r : StandingRec) : (s.setRecord p r).dir = s.dir := rfl
@[simp] theorem setRecord_notices (s : State) (p : Port) (r : StandingRec) : (s.setRecord p r).notices = s.notices := rfl
@[simp] theorem setRecord_engines (s : State) (p : Port) (r : StandingRec) : (s.setRecord p r).engines = s.engines := rfl

/-! ### `State.setLastPort` -/

@[simp] theorem setLastPort_point (s : State) (p : Port) (j : Slot) : (s.setLastPort p).point j = s.point j := rfl
@[simp] theorem setLastPort_openUpdates (s : State) (p : Port) (q' : Port) : (s.setLastPort p).openUpdates q' = s.openUpdates q' := rfl
@[simp] theorem setLastPort_index (s : State) (p : Port) : (s.setLastPort p).dir.index = s.dir.index := rfl
@[simp] theorem setLastPort_freeGranules (s : State) (p : Port) : (s.setLastPort p).dir.freeGranules = s.dir.freeGranules := rfl
@[simp] theorem setLastPort_queue (s : State) (p : Port) (q' : Port) : (s.setLastPort p).queue q' = s.queue q' := rfl
@[simp] theorem setLastPort_filters (s : State) (p : Port) (q' : Port) : (s.setLastPort p).filters q' = s.filters q' := rfl
@[simp] theorem setLastPort_engine (s : State) (p : Port) (q' : Port) : (s.setLastPort p).engine q' = s.engine q' := rfl
@[simp] theorem setLastPort_record (s : State) (p : Port) (q' : Port) : (s.setLastPort p).record q' = s.record q' := rfl
@[simp] theorem setLastPort_mute (s : State) (p : Port) (q' : Port) : (s.setLastPort p).mute q' = s.mute q' := rfl
@[simp] theorem setLastPort_request (s : State) (p : Port) : (s.setLastPort p).standing.request = s.standing.request := rfl
@[simp] theorem setLastPort_timer (s : State) (p : Port) : (s.setLastPort p).timer = s.timer := rfl
@[simp] theorem setLastPort_supply (s : State) (p : Port) : (s.setLastPort p).supply = s.supply := rfl
@[simp] theorem setLastPort_supervisor (s : State) (p : Port) : (s.setLastPort p).supervisor = s.supervisor := rfl
@[simp] theorem setLastPort_lastGrant (s : State) (p : Port) : (s.setLastPort p).lastGrant = s.lastGrant := rfl
@[simp] theorem setLastPort_pending (s : State) (p : Port) : (s.setLastPort p).pending = s.pending := rfl
@[simp] theorem setLastPort_dir (s : State) (p : Port) : (s.setLastPort p).dir = s.dir := rfl
@[simp] theorem setLastPort_notices (s : State) (p : Port) : (s.setLastPort p).notices = s.notices := rfl
@[simp] theorem setLastPort_engines (s : State) (p : Port) : (s.setLastPort p).engines = s.engines := rfl

/-! ### `State.setStandingRequest` -/

@[simp] theorem setStandingRequest_point (s : State) (r : Option StandingRequest) (j : Slot) : (s.setStandingRequest r).point j = s.point j := rfl
@[simp] theorem setStandingRequest_openUpdates (s : State) (r : Option StandingRequest) (q' : Port) : (s.setStandingRequest r).openUpdates q' = s.openUpdates q' := rfl
@[simp] theorem setStandingRequest_index (s : State) (r : Option StandingRequest) : (s.setStandingRequest r).dir.index = s.dir.index := rfl
@[simp] theorem setStandingRequest_freeGranules (s : State) (r : Option StandingRequest) : (s.setStandingRequest r).dir.freeGranules = s.dir.freeGranules := rfl
@[simp] theorem setStandingRequest_queue (s : State) (r : Option StandingRequest) (q' : Port) : (s.setStandingRequest r).queue q' = s.queue q' := rfl
@[simp] theorem setStandingRequest_filters (s : State) (r : Option StandingRequest) (q' : Port) : (s.setStandingRequest r).filters q' = s.filters q' := rfl
@[simp] theorem setStandingRequest_engine (s : State) (r : Option StandingRequest) (q' : Port) : (s.setStandingRequest r).engine q' = s.engine q' := rfl
@[simp] theorem setStandingRequest_record (s : State) (r : Option StandingRequest) (q' : Port) : (s.setStandingRequest r).record q' = s.record q' := rfl
@[simp] theorem setStandingRequest_mute (s : State) (r : Option StandingRequest) (q' : Port) : (s.setStandingRequest r).mute q' = s.mute q' := rfl
@[simp] theorem setStandingRequest_lastPort (s : State) (r : Option StandingRequest) : (s.setStandingRequest r).standing.lastPort = s.standing.lastPort := rfl
@[simp] theorem setStandingRequest_timer (s : State) (r : Option StandingRequest) : (s.setStandingRequest r).timer = s.timer := rfl
@[simp] theorem setStandingRequest_supply (s : State) (r : Option StandingRequest) : (s.setStandingRequest r).supply = s.supply := rfl
@[simp] theorem setStandingRequest_supervisor (s : State) (r : Option StandingRequest) : (s.setStandingRequest r).supervisor = s.supervisor := rfl
@[simp] theorem setStandingRequest_lastGrant (s : State) (r : Option StandingRequest) : (s.setStandingRequest r).lastGrant = s.lastGrant := rfl
@[simp] theorem setStandingRequest_pending (s : State) (r : Option StandingRequest) : (s.setStandingRequest r).pending = s.pending := rfl
@[simp] theorem setStandingRequest_dir (s : State) (r : Option StandingRequest) : (s.setStandingRequest r).dir = s.dir := rfl
@[simp] theorem setStandingRequest_notices (s : State) (r : Option StandingRequest) : (s.setStandingRequest r).notices = s.notices := rfl
@[simp] theorem setStandingRequest_engines (s : State) (r : Option StandingRequest) : (s.setStandingRequest r).engines = s.engines := rfl

/-! ### `State.setTimer` -/

@[simp] theorem setTimer_point (s : State) (t : Timer) (j : Slot) : (s.setTimer t).point j = s.point j := rfl
@[simp] theorem setTimer_openUpdates (s : State) (t : Timer) (q' : Port) : (s.setTimer t).openUpdates q' = s.openUpdates q' := rfl
@[simp] theorem setTimer_index (s : State) (t : Timer) : (s.setTimer t).dir.index = s.dir.index := rfl
@[simp] theorem setTimer_freeGranules (s : State) (t : Timer) : (s.setTimer t).dir.freeGranules = s.dir.freeGranules := rfl
@[simp] theorem setTimer_queue (s : State) (t : Timer) (q' : Port) : (s.setTimer t).queue q' = s.queue q' := rfl
@[simp] theorem setTimer_filters (s : State) (t : Timer) (q' : Port) : (s.setTimer t).filters q' = s.filters q' := rfl
@[simp] theorem setTimer_engine (s : State) (t : Timer) (q' : Port) : (s.setTimer t).engine q' = s.engine q' := rfl
@[simp] theorem setTimer_record (s : State) (t : Timer) (q' : Port) : (s.setTimer t).record q' = s.record q' := rfl
@[simp] theorem setTimer_mute (s : State) (t : Timer) (q' : Port) : (s.setTimer t).mute q' = s.mute q' := rfl
@[simp] theorem setTimer_lastPort (s : State) (t : Timer) : (s.setTimer t).standing.lastPort = s.standing.lastPort := rfl
@[simp] theorem setTimer_request (s : State) (t : Timer) : (s.setTimer t).standing.request = s.standing.request := rfl
@[simp] theorem setTimer_supply (s : State) (t : Timer) : (s.setTimer t).supply = s.supply := rfl
@[simp] theorem setTimer_supervisor (s : State) (t : Timer) : (s.setTimer t).supervisor = s.supervisor := rfl
@[simp] theorem setTimer_lastGrant (s : State) (t : Timer) : (s.setTimer t).lastGrant = s.lastGrant := rfl
@[simp] theorem setTimer_pending (s : State) (t : Timer) : (s.setTimer t).pending = s.pending := rfl
@[simp] theorem setTimer_dir (s : State) (t : Timer) : (s.setTimer t).dir = s.dir := rfl
@[simp] theorem setTimer_notices (s : State) (t : Timer) : (s.setTimer t).notices = s.notices := rfl
@[simp] theorem setTimer_standing (s : State) (t : Timer) : (s.setTimer t).standing = s.standing := rfl
@[simp] theorem setTimer_engines (s : State) (t : Timer) : (s.setTimer t).engines = s.engines := rfl

/-! ### `State.setDeadlines` -/

@[simp] theorem setDeadlines_point (s : State) (l : List Deadline) (j : Slot) : (s.setDeadlines l).point j = s.point j := rfl
@[simp] theorem setDeadlines_openUpdates (s : State) (l : List Deadline) (q' : Port) : (s.setDeadlines l).openUpdates q' = s.openUpdates q' := rfl
@[simp] theorem setDeadlines_index (s : State) (l : List Deadline) : (s.setDeadlines l).dir.index = s.dir.index := rfl
@[simp] theorem setDeadlines_freeGranules (s : State) (l : List Deadline) : (s.setDeadlines l).dir.freeGranules = s.dir.freeGranules := rfl
@[simp] theorem setDeadlines_queue (s : State) (l : List Deadline) (q' : Port) : (s.setDeadlines l).queue q' = s.queue q' := rfl
@[simp] theorem setDeadlines_filters (s : State) (l : List Deadline) (q' : Port) : (s.setDeadlines l).filters q' = s.filters q' := rfl
@[simp] theorem setDeadlines_engine (s : State) (l : List Deadline) (q' : Port) : (s.setDeadlines l).engine q' = s.engine q' := rfl
@[simp] theorem setDeadlines_record (s : State) (l : List Deadline) (q' : Port) : (s.setDeadlines l).record q' = s.record q' := rfl
@[simp] theorem setDeadlines_mute (s : State) (l : List Deadline) (q' : Port) : (s.setDeadlines l).mute q' = s.mute q' := rfl
@[simp] theorem setDeadlines_lastPort (s : State) (l : List Deadline) : (s.setDeadlines l).standing.lastPort = s.standing.lastPort := rfl
@[simp] theorem setDeadlines_request (s : State) (l : List Deadline) : (s.setDeadlines l).standing.request = s.standing.request := rfl
@[simp] theorem setDeadlines_supply (s : State) (l : List Deadline) : (s.setDeadlines l).supply = s.supply := rfl
@[simp] theorem setDeadlines_supervisor (s : State) (l : List Deadline) : (s.setDeadlines l).supervisor = s.supervisor := rfl
@[simp] theorem setDeadlines_lastGrant (s : State) (l : List Deadline) : (s.setDeadlines l).lastGrant = s.lastGrant := rfl
@[simp] theorem setDeadlines_pending (s : State) (l : List Deadline) : (s.setDeadlines l).pending = s.pending := rfl
@[simp] theorem setDeadlines_dir (s : State) (l : List Deadline) : (s.setDeadlines l).dir = s.dir := rfl
@[simp] theorem setDeadlines_notices (s : State) (l : List Deadline) : (s.setDeadlines l).notices = s.notices := rfl
@[simp] theorem setDeadlines_standing (s : State) (l : List Deadline) : (s.setDeadlines l).standing = s.standing := rfl
@[simp] theorem setDeadlines_engines (s : State) (l : List Deadline) : (s.setDeadlines l).engines = s.engines := rfl

/-! ### `State.setSupply` -/

@[simp] theorem setSupply_point (s : State) (w : SupplyWatch) (j : Slot) : (s.setSupply w).point j = s.point j := rfl
@[simp] theorem setSupply_openUpdates (s : State) (w : SupplyWatch) (q' : Port) : (s.setSupply w).openUpdates q' = s.openUpdates q' := rfl
@[simp] theorem setSupply_index (s : State) (w : SupplyWatch) : (s.setSupply w).dir.index = s.dir.index := rfl
@[simp] theorem setSupply_freeGranules (s : State) (w : SupplyWatch) : (s.setSupply w).dir.freeGranules = s.dir.freeGranules := rfl
@[simp] theorem setSupply_queue (s : State) (w : SupplyWatch) (q' : Port) : (s.setSupply w).queue q' = s.queue q' := rfl
@[simp] theorem setSupply_filters (s : State) (w : SupplyWatch) (q' : Port) : (s.setSupply w).filters q' = s.filters q' := rfl
@[simp] theorem setSupply_engine (s : State) (w : SupplyWatch) (q' : Port) : (s.setSupply w).engine q' = s.engine q' := rfl
@[simp] theorem setSupply_record (s : State) (w : SupplyWatch) (q' : Port) : (s.setSupply w).record q' = s.record q' := rfl
@[simp] theorem setSupply_mute (s : State) (w : SupplyWatch) (q' : Port) : (s.setSupply w).mute q' = s.mute q' := rfl
@[simp] theorem setSupply_lastPort (s : State) (w : SupplyWatch) : (s.setSupply w).standing.lastPort = s.standing.lastPort := rfl
@[simp] theorem setSupply_request (s : State) (w : SupplyWatch) : (s.setSupply w).standing.request = s.standing.request := rfl
@[simp] theorem setSupply_timer (s : State) (w : SupplyWatch) : (s.setSupply w).timer = s.timer := rfl
@[simp] theorem setSupply_lastGrant (s : State) (w : SupplyWatch) : (s.setSupply w).lastGrant = s.lastGrant := rfl
@[simp] theorem setSupply_pending (s : State) (w : SupplyWatch) : (s.setSupply w).pending = s.pending := rfl
@[simp] theorem setSupply_dir (s : State) (w : SupplyWatch) : (s.setSupply w).dir = s.dir := rfl
@[simp] theorem setSupply_notices (s : State) (w : SupplyWatch) : (s.setSupply w).notices = s.notices := rfl
@[simp] theorem setSupply_standing (s : State) (w : SupplyWatch) : (s.setSupply w).standing = s.standing := rfl
@[simp] theorem setSupply_engines (s : State) (w : SupplyWatch) : (s.setSupply w).engines = s.engines := rfl

/-! ### `State.setGrant` -/

@[simp] theorem setGrant_point (s : State) (g : Requester) (j : Slot) : (s.setGrant g).point j = s.point j := rfl
@[simp] theorem setGrant_openUpdates (s : State) (g : Requester) (q' : Port) : (s.setGrant g).openUpdates q' = s.openUpdates q' := rfl
@[simp] theorem setGrant_index (s : State) (g : Requester) : (s.setGrant g).dir.index = s.dir.index := rfl
@[simp] theorem setGrant_freeGranules (s : State) (g : Requester) : (s.setGrant g).dir.freeGranules = s.dir.freeGranules := rfl
@[simp] theorem setGrant_queue (s : State) (g : Requester) (q' : Port) : (s.setGrant g).queue q' = s.queue q' := rfl
@[simp] theorem setGrant_filters (s : State) (g : Requester) (q' : Port) : (s.setGrant g).filters q' = s.filters q' := rfl
@[simp] theorem setGrant_engine (s : State) (g : Requester) (q' : Port) : (s.setGrant g).engine q' = s.engine q' := rfl
@[simp] theorem setGrant_record (s : State) (g : Requester) (q' : Port) : (s.setGrant g).record q' = s.record q' := rfl
@[simp] theorem setGrant_mute (s : State) (g : Requester) (q' : Port) : (s.setGrant g).mute q' = s.mute q' := rfl
@[simp] theorem setGrant_lastPort (s : State) (g : Requester) : (s.setGrant g).standing.lastPort = s.standing.lastPort := rfl
@[simp] theorem setGrant_request (s : State) (g : Requester) : (s.setGrant g).standing.request = s.standing.request := rfl
@[simp] theorem setGrant_timer (s : State) (g : Requester) : (s.setGrant g).timer = s.timer := rfl
@[simp] theorem setGrant_supply (s : State) (g : Requester) : (s.setGrant g).supply = s.supply := rfl
@[simp] theorem setGrant_supervisor (s : State) (g : Requester) : (s.setGrant g).supervisor = s.supervisor := rfl
@[simp] theorem setGrant_pending (s : State) (g : Requester) : (s.setGrant g).pending = s.pending := rfl
@[simp] theorem setGrant_dir (s : State) (g : Requester) : (s.setGrant g).dir = s.dir := rfl
@[simp] theorem setGrant_notices (s : State) (g : Requester) : (s.setGrant g).notices = s.notices := rfl
@[simp] theorem setGrant_standing (s : State) (g : Requester) : (s.setGrant g).standing = s.standing := rfl
@[simp] theorem setGrant_engines (s : State) (g : Requester) : (s.setGrant g).engines = s.engines := rfl

/-! ### Reading back what was written -/

theorem vector_get_set {α : Type} {n : Nat} (v : Vector α n) (i j : Fin n) (x : α) :
    (v.set i.val x i.isLt).get j = if i = j then x else v.get j := by
  simp [Vector.get_eq_getElem, Vector.getElem_set, Fin.ext_iff]

@[simp] theorem setPoint_point (s : State) (i j : Slot) (x : Option Point) :
    (s.setPoint i x).point j = if i = j then x else s.point j := vector_get_set _ _ _ _

@[simp] theorem setOpenUpdates_openUpdates (s : State) (p q : Port) (n : Nat) :
    (s.setOpenUpdates p n).openUpdates q = if p = q then n else s.openUpdates q := vector_get_set _ _ _ _

@[simp] theorem setIndex_index (s : State) (l : List (Key × Slot)) : (s.setIndex l).dir.index = l := rfl

@[simp] theorem setFreeGranules_freeGranules (s : State) (n : Nat) : (s.setFreeGranules n).dir.freeGranules = n := rfl

@[simp] theorem setQueue_queue (s : State) (p r : Port) (q : List Notice) :
    (s.setQueue p q).queue r = if p = r then q else s.queue r := by
  unfold State.queue State.setQueue
  rw [vector_get_set]
  split <;> rfl

@[simp] theorem setQueue_filters (s : State) (p r : Port) (q : List Notice) : (s.setQueue p q).filters r = s.filters r := by
  unfold State.filters State.setQueue
  rw [vector_get_set]
  split
  · rename_i h; subst h; rfl
  · rfl

@[simp] theorem setFilters_filters (s : State) (p r : Port) (fs : Vector Filter 8) :
    (s.setFilters p fs).filters r = if p = r then fs else s.filters r := by
  unfold State.filters State.setFilters
  rw [vector_get_set]
  split <;> rfl

@[simp] theorem setFilters_queue (s : State) (p r : Port) (fs : Vector Filter 8) : (s.setFilters p fs).queue r = s.queue r := by
  unfold State.queue State.setFilters
  rw [vector_get_set]
  split
  · rename_i h; subst h; rfl
  · rfl

@[simp] theorem setEngine_engine (s : State) (p q : Port) (e : Engine) :
    (s.setEngine p e).engine q = if p = q then e else s.engine q := vector_get_set _ _ _ _

@[simp] theorem setRecord_record (s : State) (p q : Port) (r : StandingRec) :
    (s.setRecord p r).record q = if p = q then r else s.record q := vector_get_set _ _ _ _

@[simp] theorem setLastPort_lastPort (s : State) (p : Port) : (s.setLastPort p).standing.lastPort = p := rfl

@[simp] theorem setStandingRequest_request (s : State) (r : Option StandingRequest) :
    (s.setStandingRequest r).standing.request = r := rfl

@[simp] theorem setTimer_timer (s : State) (t : Timer) : (s.setTimer t).timer = t := rfl

@[simp] theorem setDeadlines_timer (s : State) (l : List Deadline) :
    (s.setDeadlines l).timer = { s.timer with deadlines := l } := rfl

@[simp] theorem setSupply_supply (s : State) (w : SupplyWatch) : (s.setSupply w).supply = w := rfl

@[simp] theorem setSupply_supervisor (s : State) (w : SupplyWatch) : (s.setSupply w).supervisor = w.sup := rfl

@[simp] theorem setGrant_lastGrant (s : State) (g : Requester) : (s.setGrant g).lastGrant = g := rfl

/-! ### The state after reset -/

theorem vector_get_replicate {α : Type} {n : Nat} (x : α) (i : Fin n) : (Vector.replicate n x).get i = x := by
  simp [Vector.get_eq_getElem]

@[simp] theorem reset_point (i : Slot) : State.reset.point i = none := vector_get_replicate _ _

@[simp] theorem reset_openUpdates (p : Port) : State.reset.openUpdates p = 0 := vector_get_replicate _ _

@[simp] theorem reset_queue (p : Port) : State.reset.queue p = [] := by
  unfold State.queue State.reset
  rw [vector_get_replicate]
  rfl

@[simp] theorem reset_engine (p : Port) : State.reset.engine p = Engine.reset := vector_get_replicate _ _

@[simp] theorem reset_record (p : Port) : State.reset.record p = StandingRec.reset := vector_get_replicate _ _

end Sys2Proof.Machine
end

