-- ==== Sys2Proof/Laws/Ops.lean ====
section
/-! SUPPORT. What the shared operations of Machine/Ops.lean can do: for each, what it leaves as it was and what it changes. -/

namespace Sys2Proof.Machine

/-! ### Reference counts -/

@[simp] theorem freeSlot_freeGranules (s : State) (i : Slot) : (s.freeSlot i).dir.freeGranules = s.dir.freeGranules := by
  simp [State.freeSlot]

@[simp] theorem freeSlot_openUpdates (s : State) (i : Slot) (r : Port) : (s.freeSlot i).openUpdates r = s.openUpdates r := by
  simp [State.freeSlot]

@[simp] theorem freeSlot_filters (s : State) (i : Slot) (r : Port) : (s.freeSlot i).filters r = s.filters r := by
  simp [State.freeSlot]

@[simp] theorem freeSlot_queue (s : State) (i : Slot) (r : Port) : (s.freeSlot i).queue r = s.queue r := by
  simp [State.freeSlot]

@[simp] theorem freeSlot_engine (s : State) (i : Slot) (r : Port) : (s.freeSlot i).engine r = s.engine r := by
  simp [State.freeSlot]

@[simp] theorem freeSlot_record (s : State) (i : Slot) (r : Port) : (s.freeSlot i).record r = s.record r := by
  simp [State.freeSlot]

@[simp] theorem freeSlot_mute (s : State) (i : Slot) (r : Port) : (s.freeSlot i).mute r = s.mute r := by
  simp [State.freeSlot]

@[simp] theorem freeSlot_timer (s : State) (i : Slot) : (s.freeSlot i).timer = s.timer := by
  simp [State.freeSlot]

@[simp] theorem freeSlot_supply (s : State) (i : Slot) : (s.freeSlot i).supply = s.supply := by
  simp [State.freeSlot]

@[simp] theorem freeSlot_supervisor (s : State) (i : Slot) : (s.freeSlot i).supervisor = s.supervisor := by
  simp [State.freeSlot]

@[simp] theorem freeSlot_lastGrant (s : State) (i : Slot) : (s.freeSlot i).lastGrant = s.lastGrant := by
  simp [State.freeSlot]

@[simp] theorem freeSlot_pending (s : State) (i : Slot) : (s.freeSlot i).pending = s.pending := by
  simp [State.freeSlot]

@[simp] theorem freeSlot_standing (s : State) (i : Slot) : (s.freeSlot i).standing = s.standing := by
  simp [State.freeSlot]

@[simp] theorem freeSlot_engines (s : State) (i : Slot) : (s.freeSlot i).engines = s.engines := by
  simp [State.freeSlot]

@[simp] theorem freeSlot_notices (s : State) (i : Slot) : (s.freeSlot i).notices = s.notices := by
  simp [State.freeSlot]

@[simp] theorem freeSlot_index (s : State) (i : Slot) : (s.freeSlot i).dir.index = indexRemove i s.dir.index := by
  simp [State.freeSlot]

@[simp] theorem freeSlot_point (s : State) (i j : Slot) : (s.freeSlot i).point j = if i = j then none else s.point j := by
  simp [State.freeSlot]

@[simp] theorem raiseRef_index (s : State) (i : Slot) : (s.raiseRef i).dir.index = s.dir.index := by
  unfold State.raiseRef; split <;> simp

@[simp] theorem raiseRef_freeGranules (s : State) (i : Slot) : (s.raiseRef i).dir.freeGranules = s.dir.freeGranules := by
  unfold State.raiseRef; split <;> simp

@[simp] theorem raiseRef_openUpdates (s : State) (i : Slot) (r : Port) : (s.raiseRef i).openUpdates r = s.openUpdates r := by
  unfold State.raiseRef; split <;> simp

@[simp] theorem raiseRef_filters (s : State) (i : Slot) (r : Port) : (s.raiseRef i).filters r = s.filters r := by
  unfold State.raiseRef; split <;> simp

@[simp] theorem raiseRef_queue (s : State) (i : Slot) (r : Port) : (s.raiseRef i).queue r = s.queue r := by
  unfold State.raiseRef; split <;> simp

@[simp] theorem raiseRef_engine (s : State) (i : Slot) (r : Port) : (s.raiseRef i).engine r = s.engine r := by
  unfold State.raiseRef; split <;> simp

@[simp] theorem raiseRef_record (s : State) (i : Slot) (r : Port) : (s.raiseRef i).record r = s.record r := by
  unfold State.raiseRef; split <;> simp

@[simp] theorem raiseRef_mute (s : State) (i : Slot) (r : Port) : (s.raiseRef i).mute r = s.mute r := by
  unfold State.raiseRef; split <;> simp

@[simp] theorem raiseRef_timer (s : State) (i : Slot) : (s.raiseRef i).timer = s.timer := by
  unfold State.raiseRef; split <;> simp

@[simp] theorem raiseRef_supply (s : State) (i : Slot) : (s.raiseRef i).supply = s.supply := by
  unfold State.raiseRef; split <;> simp

@[simp] theorem raiseRef_supervisor (s : State) (i : Slot) : (s.raiseRef i).supervisor = s.supervisor := by
  unfold State.raiseRef; split <;> simp

@[simp] theorem raiseRef_lastGrant (s : State) (i : Slot) : (s.raiseRef i).lastGrant = s.lastGrant := by
  unfold State.raiseRef; split <;> simp

@[simp] theorem raiseRef_pending (s : State) (i : Slot) : (s.raiseRef i).pending = s.pending := by
  unfold State.raiseRef; split <;> simp

@[simp] theorem raiseRef_standing (s : State) (i : Slot) : (s.raiseRef i).standing = s.standing := by
  unfold State.raiseRef; split <;> simp

@[simp] theorem raiseRef_engines (s : State) (i : Slot) : (s.raiseRef i).engines = s.engines := by
  unfold State.raiseRef; split <;> simp

@[simp] theorem raiseRef_notices (s : State) (i : Slot) : (s.raiseRef i).notices = s.notices := by
  unfold State.raiseRef; split <;> simp

/-- A raised reference count, and nothing else of the table. -/
@[simp] theorem raiseRef_point (s : State) (i j : Slot) :
    (s.raiseRef i).point j = if i = j then (s.point j).map fun pt => { pt with refs := pt.refs + 1 } else s.point j := by
  unfold State.raiseRef
  split
  · split
    · subst_vars; simp [*]
    · rfl
  · by_cases h : i = j
    · subst h; simp [*]
    · simp [h]

@[simp] theorem raiseRefOf_index (s : State) (i : Option Slot) : (s.raiseRefOf i).dir.index = s.dir.index := by
  unfold State.raiseRefOf; split <;> simp

@[simp] theorem raiseRefOf_freeGranules (s : State) (i : Option Slot) : (s.raiseRefOf i).dir.freeGranules = s.dir.freeGranules := by
  unfold State.raiseRefOf; split <;> simp

@[simp] theorem raiseRefOf_openUpdates (s : State) (i : Option Slot) (r : Port) : (s.raiseRefOf i).openUpdates r = s.openUpdates r := by
  unfold State.raiseRefOf; split <;> simp

@[simp] theorem raiseRefOf_filters (s : State) (i : Option Slot) (r : Port) : (s.raiseRefOf i).filters r = s.filters r := by
  unfold State.raiseRefOf; split <;> simp

@[simp] theorem raiseRefOf_queue (s : State) (i : Option Slot) (r : Port) : (s.raiseRefOf i).queue r = s.queue r := by
  unfold State.raiseRefOf; split <;> simp

@[simp] theorem raiseRefOf_engine (s : State) (i : Option Slot) (r : Port) : (s.raiseRefOf i).engine r = s.engine r := by
  unfold State.raiseRefOf; split <;> simp

@[simp] theorem raiseRefOf_record (s : State) (i : Option Slot) (r : Port) : (s.raiseRefOf i).record r = s.record r := by
  unfold State.raiseRefOf; split <;> simp

@[simp] theorem raiseRefOf_mute (s : State) (i : Option Slot) (r : Port) : (s.raiseRefOf i).mute r = s.mute r := by
  unfold State.raiseRefOf; split <;> simp

@[simp] theorem raiseRefOf_timer (s : State) (i : Option Slot) : (s.raiseRefOf i).timer = s.timer := by
  unfold State.raiseRefOf; split <;> simp

@[simp] theorem raiseRefOf_supply (s : State) (i : Option Slot) : (s.raiseRefOf i).supply = s.supply := by
  unfold State.raiseRefOf; split <;> simp

@[simp] theorem raiseRefOf_supervisor (s : State) (i : Option Slot) : (s.raiseRefOf i).supervisor = s.supervisor := by
  unfold State.raiseRefOf; split <;> simp

@[simp] theorem raiseRefOf_lastGrant (s : State) (i : Option Slot) : (s.raiseRefOf i).lastGrant = s.lastGrant := by
  unfold State.raiseRefOf; split <;> simp

@[simp] theorem raiseRefOf_pending (s : State) (i : Option Slot) : (s.raiseRefOf i).pending = s.pending := by
  unfold State.raiseRefOf; split <;> simp

@[simp] theorem raiseRefOf_standing (s : State) (i : Option Slot) : (s.raiseRefOf i).standing = s.standing := by
  unfold State.raiseRefOf; split <;> simp

@[simp] theorem raiseRefOf_engines (s : State) (i : Option Slot) : (s.raiseRefOf i).engines = s.engines := by
  unfold State.raiseRefOf; split <;> simp

@[simp] theorem raiseRefOf_notices (s : State) (i : Option Slot) : (s.raiseRefOf i).notices = s.notices := by
  unfold State.raiseRefOf; split <;> simp

@[simp] theorem raiseRefOf_point (s : State) (i : Option Slot) (j : Slot) :
    (s.raiseRefOf i).point j =
      if i = some j then (s.point j).map fun pt => { pt with refs := pt.refs + 1 } else s.point j := by
  unfold State.raiseRefOf
  split <;> simp

@[simp] theorem lowerRef_freeGranules (s : State) (i : Slot) : (s.lowerRef i).dir.freeGranules = s.dir.freeGranules := by
  unfold State.lowerRef; split <;> (try split) <;> simp

@[simp] theorem lowerRef_openUpdates (s : State) (i : Slot) (r : Port) : (s.lowerRef i).openUpdates r = s.openUpdates r := by
  unfold State.lowerRef; split <;> (try split) <;> simp

@[simp] theorem lowerRef_filters (s : State) (i : Slot) (r : Port) : (s.lowerRef i).filters r = s.filters r := by
  unfold State.lowerRef; split <;> (try split) <;> simp

@[simp] theorem lowerRef_queue (s : State) (i : Slot) (r : Port) : (s.lowerRef i).queue r = s.queue r := by
  unfold State.lowerRef; split <;> (try split) <;> simp

@[simp] theorem lowerRef_engine (s : State) (i : Slot) (r : Port) : (s.lowerRef i).engine r = s.engine r := by
  unfold State.lowerRef; split <;> (try split) <;> simp

@[simp] theorem lowerRef_record (s : State) (i : Slot) (r : Port) : (s.lowerRef i).record r = s.record r := by
  unfold State.lowerRef; split <;> (try split) <;> simp

@[simp] theorem lowerRef_mute (s : State) (i : Slot) (r : Port) : (s.lowerRef i).mute r = s.mute r := by
  unfold State.lowerRef; split <;> (try split) <;> simp

@[simp] theorem lowerRef_timer (s : State) (i : Slot) : (s.lowerRef i).timer = s.timer := by
  unfold State.lowerRef; split <;> (try split) <;> simp

@[simp] theorem lowerRef_supply (s : State) (i : Slot) : (s.lowerRef i).supply = s.supply := by
  unfold State.lowerRef; split <;> (try split) <;> simp

@[simp] theorem lowerRef_supervisor (s : State) (i : Slot) : (s.lowerRef i).supervisor = s.supervisor := by
  unfold State.lowerRef; split <;> (try split) <;> simp

@[simp] theorem lowerRef_lastGrant (s : State) (i : Slot) : (s.lowerRef i).lastGrant = s.lastGrant := by
  unfold State.lowerRef; split <;> (try split) <;> simp

@[simp] theorem lowerRef_pending (s : State) (i : Slot) : (s.lowerRef i).pending = s.pending := by
  unfold State.lowerRef; split <;> (try split) <;> simp

@[simp] theorem lowerRef_standing (s : State) (i : Slot) : (s.lowerRef i).standing = s.standing := by
  unfold State.lowerRef; split <;> (try split) <;> simp

@[simp] theorem lowerRef_engines (s : State) (i : Slot) : (s.lowerRef i).engines = s.engines := by
  unfold State.lowerRef; split <;> (try split) <;> simp

@[simp] theorem lowerRef_notices (s : State) (i : Slot) : (s.lowerRef i).notices = s.notices := by
  unfold State.lowerRef; split <;> (try split) <;> simp

/-- A lowered reference count: a RETIRING slot whose count reaches 0 is FREE (R19, R20). -/
theorem lowerRef_point (s : State) (i j : Slot) :
    (s.lowerRef i).point j =
      if i = j then
        (s.point j).bind fun pt =>
          if pt.state = .retiring ∧ pt.refs - 1 = 0 then none else some { pt with refs := pt.refs - 1 }
      else s.point j := by
  unfold State.lowerRef
  by_cases h : i = j
  · subst h
    cases hp : s.point i with
    | none => simp [hp]
    | some pt =>
      by_cases hd : pt.state = .retiring ∧ pt.refs - 1 = 0
      · simp [hd]
      · simp [hd]
  · cases hp : s.point i with
    | none => simp [h]
    | some pt =>
      by_cases hd : pt.state = .retiring ∧ pt.refs - 1 = 0
      · simp [hd, h]
      · simp [hd, h]

/-- The index loses the slot's entry exactly when the slot becomes FREE. -/
theorem lowerRef_index (s : State) (i : Slot) :
    (s.lowerRef i).dir.index =
      match s.point i with
      | none => s.dir.index
      | some pt => if pt.state = .retiring ∧ pt.refs - 1 = 0 then indexRemove i s.dir.index else s.dir.index := by
  unfold State.lowerRef
  cases hp : s.point i with
  | none => rfl
  | some pt =>
    by_cases hd : pt.state = .retiring ∧ pt.refs - 1 = 0
    · simp [hd]
    · simp [hd]

theorem lowerRefs_keep {β : Type} (f : State → β) (h : ∀ s i, f (State.lowerRef s i) = f s) (l : List Slot) (s : State) :
    f (l.foldl State.lowerRef s) = f s := by
  induction l generalizing s with
  | nil => rfl
  | cons i l ih => rw [List.foldl_cons, ih, h]

@[simp] theorem releaseRefs_freeGranules (s : State) (ns : List Notice) : (s.releaseRefs ns).dir.freeGranules = s.dir.freeGranules :=
  lowerRefs_keep (fun t => t.dir.freeGranules) (fun s i => by simp) _ s

@[simp] theorem releaseRefs_openUpdates (s : State) (ns : List Notice) (r : Port) : (s.releaseRefs ns).openUpdates r = s.openUpdates r :=
  lowerRefs_keep (fun t => t.openUpdates r) (fun s i => by simp) _ s

@[simp] theorem releaseRefs_filters (s : State) (ns : List Notice) (r : Port) : (s.releaseRefs ns).filters r = s.filters r :=
  lowerRefs_keep (fun t => t.filters r) (fun s i => by simp) _ s

@[simp] theorem releaseRefs_queue (s : State) (ns : List Notice) (r : Port) : (s.releaseRefs ns).queue r = s.queue r :=
  lowerRefs_keep (fun t => t.queue r) (fun s i => by simp) _ s

@[simp] theorem releaseRefs_engine (s : State) (ns : List Notice) (r : Port) : (s.releaseRefs ns).engine r = s.engine r :=
  lowerRefs_keep (fun t => t.engine r) (fun s i => by simp) _ s

@[simp] theorem releaseRefs_record (s : State) (ns : List Notice) (r : Port) : (s.releaseRefs ns).record r = s.record r :=
  lowerRefs_keep (fun t => t.record r) (fun s i => by simp) _ s

@[simp] theorem releaseRefs_mute (s : State) (ns : List Notice) (r : Port) : (s.releaseRefs ns).mute r = s.mute r :=
  lowerRefs_keep (fun t => t.mute r) (fun s i => by simp) _ s

@[simp] theorem releaseRefs_timer (s : State) (ns : List Notice) : (s.releaseRefs ns).timer = s.timer :=
  lowerRefs_keep (fun t => t.timer) (fun s i => by simp) _ s

@[simp] theorem releaseRefs_supply (s : State) (ns : List Notice) : (s.releaseRefs ns).supply = s.supply :=
  lowerRefs_keep (fun t => t.supply) (fun s i => by simp) _ s

@[simp] theorem releaseRefs_supervisor (s : State) (ns : List Notice) : (s.releaseRefs ns).supervisor = s.supervisor :=
  lowerRefs_keep (fun t => t.supervisor) (fun s i => by simp) _ s

@[simp] theorem releaseRefs_lastGrant (s : State) (ns : List Notice) : (s.releaseRefs ns).lastGrant = s.lastGrant :=
  lowerRefs_keep (fun t => t.lastGrant) (fun s i => by simp) _ s

@[simp] theorem releaseRefs_pending (s : State) (ns : List Notice) : (s.releaseRefs ns).pending = s.pending :=
  lowerRefs_keep (fun t => t.pending) (fun s i => by simp) _ s

@[simp] theorem releaseRefs_standing (s : State) (ns : List Notice) : (s.releaseRefs ns).standing = s.standing :=
  lowerRefs_keep (fun t => t.standing) (fun s i => by simp) _ s

@[simp] theorem releaseRefs_engines (s : State) (ns : List Notice) : (s.releaseRefs ns).engines = s.engines :=
  lowerRefs_keep (fun t => t.engines) (fun s i => by simp) _ s

@[simp] theorem releaseRefs_notices (s : State) (ns : List Notice) : (s.releaseRefs ns).notices = s.notices :=
  lowerRefs_keep (fun t => t.notices) (fun s i => by simp) _ s

@[simp] theorem flushQueue_freeGranules (s : State) (p : Port) : (s.flushQueue p).dir.freeGranules = s.dir.freeGranules := by
  simp [State.flushQueue]

@[simp] theorem flushQueue_openUpdates (s : State) (p : Port) (r : Port) : (s.flushQueue p).openUpdates r = s.openUpdates r := by
  simp [State.flushQueue]

@[simp] theorem flushQueue_filters (s : State) (p : Port) (r : Port) : (s.flushQueue p).filters r = s.filters r := by
  simp [State.flushQueue]

@[simp] theorem flushQueue_engine (s : State) (p : Port) (r : Port) : (s.flushQueue p).engine r = s.engine r := by
  simp [State.flushQueue]

@[simp] theorem flushQueue_record (s : State) (p : Port) (r : Port) : (s.flushQueue p).record r = s.record r := by
  simp [State.flushQueue]

@[simp] theorem flushQueue_mute (s : State) (p : Port) (r : Port) : (s.flushQueue p).mute r = s.mute r := by
  simp [State.flushQueue]

@[simp] theorem flushQueue_timer (s : State) (p : Port) : (s.flushQueue p).timer = s.timer := by
  simp [State.flushQueue]

@[simp] theorem flushQueue_supply (s : State) (p : Port) : (s.flushQueue p).supply = s.supply := by
  simp [State.flushQueue]

@[simp] theorem flushQueue_supervisor (s : State) (p : Port) : (s.flushQueue p).supervisor = s.supervisor := by
  simp [State.flushQueue]

@[simp] theorem flushQueue_lastGrant (s : State) (p : Port) : (s.flushQueue p).lastGrant = s.lastGrant := by
  simp [State.flushQueue]

@[simp] theorem flushQueue_pending (s : State) (p : Port) : (s.flushQueue p).pending = s.pending := by
  simp [State.flushQueue]

@[simp] theorem flushQueue_standing (s : State) (p : Port) : (s.flushQueue p).standing = s.standing := by
  simp [State.flushQueue]

@[simp] theorem flushQueue_engines (s : State) (p : Port) : (s.flushQueue p).engines = s.engines := by
  simp [State.flushQueue]

@[simp] theorem flushQueue_queue (s : State) (p r : Port) : (s.flushQueue p).queue r = if p = r then [] else s.queue r := by
  simp [State.flushQueue]

/-! ### Offering and routing -/

@[simp] theorem offer_index (s : State) (p : Port) (n : Notice) : (s.offer p n).dir.index = s.dir.index := by
  unfold State.offer; dsimp only; (repeat' split) <;> simp

@[simp] theorem offer_freeGranules (s : State) (p : Port) (n : Notice) : (s.offer p n).dir.freeGranules = s.dir.freeGranules := by
  unfold State.offer; dsimp only; (repeat' split) <;> simp

@[simp] theorem offer_openUpdates (s : State) (p : Port) (n : Notice) (r : Port) : (s.offer p n).openUpdates r = s.openUpdates r := by
  unfold State.offer; dsimp only; (repeat' split) <;> simp

@[simp] theorem offer_filters (s : State) (p : Port) (n : Notice) (r : Port) : (s.offer p n).filters r = s.filters r := by
  unfold State.offer; dsimp only; (repeat' split) <;> simp

@[simp] theorem offer_engine (s : State) (p : Port) (n : Notice) (r : Port) : (s.offer p n).engine r = s.engine r := by
  unfold State.offer; dsimp only; (repeat' split) <;> simp

@[simp] theorem offer_record (s : State) (p : Port) (n : Notice) (r : Port) : (s.offer p n).record r = s.record r := by
  unfold State.offer; dsimp only; (repeat' split) <;> simp

@[simp] theorem offer_mute (s : State) (p : Port) (n : Notice) (r : Port) : (s.offer p n).mute r = s.mute r := by
  unfold State.offer; dsimp only; (repeat' split) <;> simp

@[simp] theorem offer_timer (s : State) (p : Port) (n : Notice) : (s.offer p n).timer = s.timer := by
  unfold State.offer; dsimp only; (repeat' split) <;> simp

@[simp] theorem offer_supply (s : State) (p : Port) (n : Notice) : (s.offer p n).supply = s.supply := by
  unfold State.offer; dsimp only; (repeat' split) <;> simp

@[simp] theorem offer_supervisor (s : State) (p : Port) (n : Notice) : (s.offer p n).supervisor = s.supervisor := by
  unfold State.offer; dsimp only; (repeat' split) <;> simp

@[simp] theorem offer_lastGrant (s : State) (p : Port) (n : Notice) : (s.offer p n).lastGrant = s.lastGrant := by
  unfold State.offer; dsimp only; (repeat' split) <;> simp

@[simp] theorem offer_pending (s : State) (p : Port) (n : Notice) : (s.offer p n).pending = s.pending := by
  unfold State.offer; dsimp only; (repeat' split) <;> simp

@[simp] theorem offer_standing (s : State) (p : Port) (n : Notice) : (s.offer p n).standing = s.standing := by
  unfold State.offer; dsimp only; (repeat' split) <;> simp

@[simp] theorem offer_engines (s : State) (p : Port) (n : Notice) : (s.offer p n).engines = s.engines := by
  unfold State.offer; dsimp only; (repeat' split) <;> simp

/-- What an offer does to the queues: it is dealt with by R77 and R78, unless the port is SEVERED or sever-pending (R76). -/
@[simp] theorem offer_queue (s : State) (p r : Port) (n : Notice) :
    (s.offer p n).queue r = if p = r ∧ s.mute p = false then (offerQueue (s.queue p) n).1 else s.queue r := by
  unfold State.offer
  dsimp only
  cases hm : s.mute p <;> by_cases hr : p = r <;> simp [hr] <;> split <;> simp [hr]

/-- What an offer does to the table: one reference more for the slot named, when the notice is appended (R19). -/
theorem offer_point (s : State) (p : Port) (n : Notice) (j : Slot) :
    (s.offer p n).point j =
      if s.mute p = false ∧ (offerQueue (s.queue p) n).2 = true ∧ n.slot? = some j then
        (s.point j).map fun pt => { pt with refs := pt.refs + 1 }
      else s.point j := by
  unfold State.offer
  dsimp only
  cases hm : s.mute p <;> cases ha : (offerQueue (s.queue p) n).2 <;> simp

theorem routed_keep {β : Type} (f : State → β) (h : ∀ s p n, f (State.offer s p n) = f s) (i : Slot) (k : WatchKind)
    (mk : FilterNo → Notice) (l : List Port) (s : State) : f (l.foldl (State.routeTo i k mk) s) = f s := by
  induction l generalizing s with
  | nil => rfl
  | cons p l ih =>
    rw [List.foldl_cons, ih]
    unfold State.routeTo
    split
    · rfl
    · split
      · rfl
      · exact h _ _ _

@[simp] theorem route_index (s : State) (i : Slot) (k : WatchKind) (mk : FilterNo → Notice) :
    (s.route i k mk).dir.index = s.dir.index :=
  routed_keep (fun t => t.dir.index) (fun s p n => by simp) i k mk _ s

@[simp] theorem route_freeGranules (s : State) (i : Slot) (k : WatchKind) (mk : FilterNo → Notice) :
    (s.route i k mk).dir.freeGranules = s.dir.freeGranules :=
  routed_keep (fun t => t.dir.freeGranules) (fun s p n => by simp) i k mk _ s

@[simp] theorem route_openUpdates (s : State) (i : Slot) (k : WatchKind) (mk : FilterNo → Notice) (r : Port) :
    (s.route i k mk).openUpdates r = s.openUpdates r :=
  routed_keep (fun t => t.openUpdates r) (fun s p n => by simp) i k mk _ s

@[simp] theorem route_filters (s : State) (i : Slot) (k : WatchKind) (mk : FilterNo → Notice) (r : Port) :
    (s.route i k mk).filters r = s.filters r :=
  routed_keep (fun t => t.filters r) (fun s p n => by simp) i k mk _ s

@[simp] theorem route_engine (s : State) (i : Slot) (k : WatchKind) (mk : FilterNo → Notice) (r : Port) :
    (s.route i k mk).engine r = s.engine r :=
  routed_keep (fun t => t.engine r) (fun s p n => by simp) i k mk _ s

@[simp] theorem route_record (s : State) (i : Slot) (k : WatchKind) (mk : FilterNo → Notice) (r : Port) :
    (s.route i k mk).record r = s.record r :=
  routed_keep (fun t => t.record r) (fun s p n => by simp) i k mk _ s

@[simp] theorem route_mute (s : State) (i : Slot) (k : WatchKind) (mk : FilterNo → Notice) (r : Port) :
    (s.route i k mk).mute r = s.mute r :=
  routed_keep (fun t => t.mute r) (fun s p n => by simp) i k mk _ s

@[simp] theorem route_timer (s : State) (i : Slot) (k : WatchKind) (mk : FilterNo → Notice) :
    (s.route i k mk).timer = s.timer :=
  routed_keep (fun t => t.timer) (fun s p n => by simp) i k mk _ s

@[simp] theorem route_supply (s : State) (i : Slot) (k : WatchKind) (mk : FilterNo → Notice) :
    (s.route i k mk).supply = s.supply :=
  routed_keep (fun t => t.supply) (fun s p n => by simp) i k mk _ s

@[simp] theorem route_supervisor (s : State) (i : Slot) (k : WatchKind) (mk : FilterNo → Notice) :
    (s.route i k mk).supervisor = s.supervisor :=
  routed_keep (fun t => t.supervisor) (fun s p n => by simp) i k mk _ s

@[simp] theorem route_lastGrant (s : State) (i : Slot) (k : WatchKind) (mk : FilterNo → Notice) :
    (s.route i k mk).lastGrant = s.lastGrant :=
  routed_keep (fun t => t.lastGrant) (fun s p n => by simp) i k mk _ s

@[simp] theorem route_pending (s : State) (i : Slot) (k : WatchKind) (mk : FilterNo → Notice) :
    (s.route i k mk).pending = s.pending :=
  routed_keep (fun t => t.pending) (fun s p n => by simp) i k mk _ s

@[simp] theorem route_standing (s : State) (i : Slot) (k : WatchKind) (mk : FilterNo → Notice) :
    (s.route i k mk).standing = s.standing :=
  routed_keep (fun t => t.standing) (fun s p n => by simp) i k mk _ s

@[simp] theorem route_engines (s : State) (i : Slot) (k : WatchKind) (mk : FilterNo → Notice) :
    (s.route i k mk).engines = s.engines :=
  routed_keep (fun t => t.engines) (fun s p n => by simp) i k mk _ s

@[simp] theorem routeChanged_index (s : State) (i : Slot) : (s.routeChanged i).dir.index = s.dir.index := by
  unfold State.routeChanged; split <;> simp

@[simp] theorem routeChanged_freeGranules (s : State) (i : Slot) : (s.routeChanged i).dir.freeGranules = s.dir.freeGranules := by
  unfold State.routeChanged; split <;> simp

@[simp] theorem routeChanged_openUpdates (s : State) (i : Slot) (r : Port) : (s.routeChanged i).openUpdates r = s.openUpdates r := by
  unfold State.routeChanged; split <;> simp

@[simp] theorem routeChanged_filters (s : State) (i : Slot) (r : Port) : (s.routeChanged i).filters r = s.filters r := by
  unfold State.routeChanged; split <;> simp

@[simp] theorem routeChanged_engine (s : State) (i : Slot) (r : Port) : (s.routeChanged i).engine r = s.engine r := by
  unfold State.routeChanged; split <;> simp

@[simp] theorem routeChanged_record (s : State) (i : Slot) (r : Port) : (s.routeChanged i).record r = s.record r := by
  unfold State.routeChanged; split <;> simp

@[simp] theorem routeChanged_mute (s : State) (i : Slot) (r : Port) : (s.routeChanged i).mute r = s.mute r := by
  unfold State.routeChanged; split <;> simp

@[simp] theorem routeChanged_timer (s : State) (i : Slot) : (s.routeChanged i).timer = s.timer := by
  unfold State.routeChanged; split <;> simp

@[simp] theorem routeChanged_supply (s : State) (i : Slot) : (s.routeChanged i).supply = s.supply := by
  unfold State.routeChanged; split <;> simp

@[simp] theorem routeChanged_supervisor (s : State) (i : Slot) : (s.routeChanged i).supervisor = s.supervisor := by
  unfold State.routeChanged; split <;> simp

@[simp] theorem routeChanged_lastGrant (s : State) (i : Slot) : (s.routeChanged i).lastGrant = s.lastGrant := by
  unfold State.routeChanged; split <;> simp

@[simp] theorem routeChanged_pending (s : State) (i : Slot) : (s.routeChanged i).pending = s.pending := by
  unfold State.routeChanged; split <;> simp

@[simp] theorem routeChanged_standing (s : State) (i : Slot) : (s.routeChanged i).standing = s.standing := by
  unfold State.routeChanged; split <;> simp

@[simp] theorem routeChanged_engines (s : State) (i : Slot) : (s.routeChanged i).engines = s.engines := by
  unfold State.routeChanged; split <;> simp

@[simp] theorem routeStale_index (s : State) (i : Slot) : (s.routeStale i).dir.index = s.dir.index := by
  unfold State.routeStale; split <;> simp

@[simp] theorem routeStale_freeGranules (s : State) (i : Slot) : (s.routeStale i).dir.freeGranules = s.dir.freeGranules := by
  unfold State.routeStale; split <;> simp

@[simp] theorem routeStale_openUpdates (s : State) (i : Slot) (r : Port) : (s.routeStale i).openUpdates r = s.openUpdates r := by
  unfold State.routeStale; split <;> simp

@[simp] theorem routeStale_filters (s : State) (i : Slot) (r : Port) : (s.routeStale i).filters r = s.filters r := by
  unfold State.routeStale; split <;> simp

@[simp] theorem routeStale_engine (s : State) (i : Slot) (r : Port) : (s.routeStale i).engine r = s.engine r := by
  unfold State.routeStale; split <;> simp

@[simp] theorem routeStale_record (s : State) (i : Slot) (r : Port) : (s.routeStale i).record r = s.record r := by
  unfold State.routeStale; split <;> simp

@[simp] theorem routeStale_mute (s : State) (i : Slot) (r : Port) : (s.routeStale i).mute r = s.mute r := by
  unfold State.routeStale; split <;> simp

@[simp] theorem routeStale_timer (s : State) (i : Slot) : (s.routeStale i).timer = s.timer := by
  unfold State.routeStale; split <;> simp

@[simp] theorem routeStale_supply (s : State) (i : Slot) : (s.routeStale i).supply = s.supply := by
  unfold State.routeStale; split <;> simp

@[simp] theorem routeStale_supervisor (s : State) (i : Slot) : (s.routeStale i).supervisor = s.supervisor := by
  unfold State.routeStale; split <;> simp

@[simp] theorem routeStale_lastGrant (s : State) (i : Slot) : (s.routeStale i).lastGrant = s.lastGrant := by
  unfold State.routeStale; split <;> simp

@[simp] theorem routeStale_pending (s : State) (i : Slot) : (s.routeStale i).pending = s.pending := by
  unfold State.routeStale; split <;> simp

@[simp] theorem routeStale_standing (s : State) (i : Slot) : (s.routeStale i).standing = s.standing := by
  unfold State.routeStale; split <;> simp

@[simp] theorem routeStale_engines (s : State) (i : Slot) : (s.routeStale i).engines = s.engines := by
  unfold State.routeStale; split <;> simp

@[simp] theorem routeRetired_index (s : State) (i : Slot) : (s.routeRetired i).dir.index = s.dir.index := by
  unfold State.routeRetired; split <;> simp

@[simp] theorem routeRetired_freeGranules (s : State) (i : Slot) : (s.routeRetired i).dir.freeGranules = s.dir.freeGranules := by
  unfold State.routeRetired; split <;> simp

@[simp] theorem routeRetired_openUpdates (s : State) (i : Slot) (r : Port) : (s.routeRetired i).openUpdates r = s.openUpdates r := by
  unfold State.routeRetired; split <;> simp

@[simp] theorem routeRetired_filters (s : State) (i : Slot) (r : Port) : (s.routeRetired i).filters r = s.filters r := by
  unfold State.routeRetired; split <;> simp

@[simp] theorem routeRetired_engine (s : State) (i : Slot) (r : Port) : (s.routeRetired i).engine r = s.engine r := by
  unfold State.routeRetired; split <;> simp

@[simp] theorem routeRetired_record (s : State) (i : Slot) (r : Port) : (s.routeRetired i).record r = s.record r := by
  unfold State.routeRetired; split <;> simp

@[simp] theorem routeRetired_mute (s : State) (i : Slot) (r : Port) : (s.routeRetired i).mute r = s.mute r := by
  unfold State.routeRetired; split <;> simp

@[simp] theorem routeRetired_timer (s : State) (i : Slot) : (s.routeRetired i).timer = s.timer := by
  unfold State.routeRetired; split <;> simp

@[simp] theorem routeRetired_supply (s : State) (i : Slot) : (s.routeRetired i).supply = s.supply := by
  unfold State.routeRetired; split <;> simp

@[simp] theorem routeRetired_supervisor (s : State) (i : Slot) : (s.routeRetired i).supervisor = s.supervisor := by
  unfold State.routeRetired; split <;> simp

@[simp] theorem routeRetired_lastGrant (s : State) (i : Slot) : (s.routeRetired i).lastGrant = s.lastGrant := by
  unfold State.routeRetired; split <;> simp

@[simp] theorem routeRetired_pending (s : State) (i : Slot) : (s.routeRetired i).pending = s.pending := by
  unfold State.routeRetired; split <;> simp

@[simp] theorem routeRetired_standing (s : State) (i : Slot) : (s.routeRetired i).standing = s.standing := by
  unfold State.routeRetired; split <;> simp

@[simp] theorem routeRetired_engines (s : State) (i : Slot) : (s.routeRetired i).engines = s.engines := by
  unfold State.routeRetired; split <;> simp

@[simp] theorem routeOwner_index (s : State) (o : Option Port) (i : Slot) : (State.routeOwner o s i).dir.index = s.dir.index := by
  unfold State.routeOwner; split <;> simp

@[simp] theorem routeOwner_freeGranules (s : State) (o : Option Port) (i : Slot) : (State.routeOwner o s i).dir.freeGranules = s.dir.freeGranules := by
  unfold State.routeOwner; split <;> simp

@[simp] theorem routeOwner_openUpdates (s : State) (o : Option Port) (i : Slot) (r : Port) : (State.routeOwner o s i).openUpdates r = s.openUpdates r := by
  unfold State.routeOwner; split <;> simp

@[simp] theorem routeOwner_filters (s : State) (o : Option Port) (i : Slot) (r : Port) : (State.routeOwner o s i).filters r = s.filters r := by
  unfold State.routeOwner; split <;> simp

@[simp] theorem routeOwner_engine (s : State) (o : Option Port) (i : Slot) (r : Port) : (State.routeOwner o s i).engine r = s.engine r := by
  unfold State.routeOwner; split <;> simp

@[simp] theorem routeOwner_record (s : State) (o : Option Port) (i : Slot) (r : Port) : (State.routeOwner o s i).record r = s.record r := by
  unfold State.routeOwner; split <;> simp

@[simp] theorem routeOwner_mute (s : State) (o : Option Port) (i : Slot) (r : Port) : (State.routeOwner o s i).mute r = s.mute r := by
  unfold State.routeOwner; split <;> simp

@[simp] theorem routeOwner_timer (s : State) (o : Option Port) (i : Slot) : (State.routeOwner o s i).timer = s.timer := by
  unfold State.routeOwner; split <;> simp

@[simp] theorem routeOwner_supply (s : State) (o : Option Port) (i : Slot) : (State.routeOwner o s i).supply = s.supply := by
  unfold State.routeOwner; split <;> simp

@[simp] theorem routeOwner_supervisor (s : State) (o : Option Port) (i : Slot) : (State.routeOwner o s i).supervisor = s.supervisor := by
  unfold State.routeOwner; split <;> simp

@[simp] theorem routeOwner_lastGrant (s : State) (o : Option Port) (i : Slot) : (State.routeOwner o s i).lastGrant = s.lastGrant := by
  unfold State.routeOwner; split <;> simp

@[simp] theorem routeOwner_pending (s : State) (o : Option Port) (i : Slot) : (State.routeOwner o s i).pending = s.pending := by
  unfold State.routeOwner; split <;> simp

@[simp] theorem routeOwner_standing (s : State) (o : Option Port) (i : Slot) : (State.routeOwner o s i).standing = s.standing := by
  unfold State.routeOwner; split <;> simp

@[simp] theorem routeOwner_engines (s : State) (o : Option Port) (i : Slot) : (State.routeOwner o s i).engines = s.engines := by
  unfold State.routeOwner; split <;> simp

@[simp] theorem offerStanding_index (s : State) (p : Port) (st : Standing) : (s.offerStanding p st).dir.index = s.dir.index := by
  simp [State.offerStanding]

@[simp] theorem offerStanding_freeGranules (s : State) (p : Port) (st : Standing) : (s.offerStanding p st).dir.freeGranules = s.dir.freeGranules := by
  simp [State.offerStanding]

@[simp] theorem offerStanding_openUpdates (s : State) (p : Port) (st : Standing) (r : Port) : (s.offerStanding p st).openUpdates r = s.openUpdates r := by
  simp [State.offerStanding]

@[simp] theorem offerStanding_filters (s : State) (p : Port) (st : Standing) (r : Port) : (s.offerStanding p st).filters r = s.filters r := by
  simp [State.offerStanding]

@[simp] theorem offerStanding_engine (s : State) (p : Port) (st : Standing) (r : Port) : (s.offerStanding p st).engine r = s.engine r := by
  simp [State.offerStanding]

@[simp] theorem offerStanding_record (s : State) (p : Port) (st : Standing) (r : Port) : (s.offerStanding p st).record r = s.record r := by
  simp [State.offerStanding]

@[simp] theorem offerStanding_mute (s : State) (p : Port) (st : Standing) (r : Port) : (s.offerStanding p st).mute r = s.mute r := by
  simp [State.offerStanding]

@[simp] theorem offerStanding_timer (s : State) (p : Port) (st : Standing) : (s.offerStanding p st).timer = s.timer := by
  simp [State.offerStanding]

@[simp] theorem offerStanding_supply (s : State) (p : Port) (st : Standing) : (s.offerStanding p st).supply = s.supply := by
  simp [State.offerStanding]

@[simp] theorem offerStanding_supervisor (s : State) (p : Port) (st : Standing) : (s.offerStanding p st).supervisor = s.supervisor := by
  simp [State.offerStanding]

@[simp] theorem offerStanding_lastGrant (s : State) (p : Port) (st : Standing) : (s.offerStanding p st).lastGrant = s.lastGrant := by
  simp [State.offerStanding]

@[simp] theorem offerStanding_pending (s : State) (p : Port) (st : Standing) : (s.offerStanding p st).pending = s.pending := by
  simp [State.offerStanding]

@[simp] theorem offerStanding_standing (s : State) (p : Port) (st : Standing) : (s.offerStanding p st).standing = s.standing := by
  simp [State.offerStanding]

@[simp] theorem offerStanding_engines (s : State) (p : Port) (st : Standing) : (s.offerStanding p st).engines = s.engines := by
  simp [State.offerStanding]

@[simp] theorem offerStanding_point (s : State) (p : Port) (st : Standing) (j : Slot) :
    (s.offerStanding p st).point j = s.point j := by
  simp [State.offerStanding, offer_point, Notice.slot?]

@[simp] theorem offerStanding_queue (s : State) (p r : Port) (st : Standing) :
    (s.offerStanding p st).queue r =
      if s.supervisor = r ∧ s.mute s.supervisor = false then (offerQueue (s.queue s.supervisor) (.standing p st false)).1
      else s.queue r := by
  simp [State.offerStanding]

/-! ### Deadlines, updates and commits -/

@[simp] theorem disarm_index (s : State) (i : Slot) (k : DeadlineKind) : (s.disarm i k).dir.index = s.dir.index := by
  simp [State.disarm]

@[simp] theorem disarm_freeGranules (s : State) (i : Slot) (k : DeadlineKind) : (s.disarm i k).dir.freeGranules = s.dir.freeGranules := by
  simp [State.disarm]

@[simp] theorem disarm_openUpdates (s : State) (i : Slot) (k : DeadlineKind) (r : Port) : (s.disarm i k).openUpdates r = s.openUpdates r := by
  simp [State.disarm]

@[simp] theorem disarm_filters (s : State) (i : Slot) (k : DeadlineKind) (r : Port) : (s.disarm i k).filters r = s.filters r := by
  simp [State.disarm]

@[simp] theorem disarm_queue (s : State) (i : Slot) (k : DeadlineKind) (r : Port) : (s.disarm i k).queue r = s.queue r := by
  simp [State.disarm]

@[simp] theorem disarm_engine (s : State) (i : Slot) (k : DeadlineKind) (r : Port) : (s.disarm i k).engine r = s.engine r := by
  simp [State.disarm]

@[simp] theorem disarm_record (s : State) (i : Slot) (k : DeadlineKind) (r : Port) : (s.disarm i k).record r = s.record r := by
  simp [State.disarm]

@[simp] theorem disarm_mute (s : State) (i : Slot) (k : DeadlineKind) (r : Port) : (s.disarm i k).mute r = s.mute r := by
  simp [State.disarm]

@[simp] theorem disarm_supply (s : State) (i : Slot) (k : DeadlineKind) : (s.disarm i k).supply = s.supply := by
  simp [State.disarm]

@[simp] theorem disarm_supervisor (s : State) (i : Slot) (k : DeadlineKind) : (s.disarm i k).supervisor = s.supervisor := by
  simp [State.disarm]

@[simp] theorem disarm_lastGrant (s : State) (i : Slot) (k : DeadlineKind) : (s.disarm i k).lastGrant = s.lastGrant := by
  simp [State.disarm]

@[simp] theorem disarm_pending (s : State) (i : Slot) (k : DeadlineKind) : (s.disarm i k).pending = s.pending := by
  simp [State.disarm]

@[simp] theorem disarm_standing (s : State) (i : Slot) (k : DeadlineKind) : (s.disarm i k).standing = s.standing := by
  simp [State.disarm]

@[simp] theorem disarm_engines (s : State) (i : Slot) (k : DeadlineKind) : (s.disarm i k).engines = s.engines := by
  simp [State.disarm]

@[simp] theorem disarm_notices (s : State) (i : Slot) (k : DeadlineKind) : (s.disarm i k).notices = s.notices := by
  simp [State.disarm]

@[simp] theorem arm_index (s : State) (i : Slot) (k : DeadlineKind) (n : Nat) : (s.arm i k n).dir.index = s.dir.index := by
  simp [State.arm]

@[simp] theorem arm_freeGranules (s : State) (i : Slot) (k : DeadlineKind) (n : Nat) : (s.arm i k n).dir.freeGranules = s.dir.freeGranules := by
  simp [State.arm]

@[simp] theorem arm_openUpdates (s : State) (i : Slot) (k : DeadlineKind) (n : Nat) (r : Port) : (s.arm i k n).openUpdates r = s.openUpdates r := by
  simp [State.arm]

@[simp] theorem arm_filters (s : State) (i : Slot) (k : DeadlineKind) (n : Nat) (r : Port) : (s.arm i k n).filters r = s.filters r := by
  simp [State.arm]

@[simp] theorem arm_queue (s : State) (i : Slot) (k : DeadlineKind) (n : Nat) (r : Port) : (s.arm i k n).queue r = s.queue r := by
  simp [State.arm]

@[simp] theorem arm_engine (s : State) (i : Slot) (k : DeadlineKind) (n : Nat) (r : Port) : (s.arm i k n).engine r = s.engine r := by
  simp [State.arm]

@[simp] theorem arm_record (s : State) (i : Slot) (k : DeadlineKind) (n : Nat) (r : Port) : (s.arm i k n).record r = s.record r := by
  simp [State.arm]

@[simp] theorem arm_mute (s : State) (i : Slot) (k : DeadlineKind) (n : Nat) (r : Port) : (s.arm i k n).mute r = s.mute r := by
  simp [State.arm]

@[simp] theorem arm_supply (s : State) (i : Slot) (k : DeadlineKind) (n : Nat) : (s.arm i k n).supply = s.supply := by
  simp [State.arm]

@[simp] theorem arm_supervisor (s : State) (i : Slot) (k : DeadlineKind) (n : Nat) : (s.arm i k n).supervisor = s.supervisor := by
  simp [State.arm]

@[simp] theorem arm_lastGrant (s : State) (i : Slot) (k : DeadlineKind) (n : Nat) : (s.arm i k n).lastGrant = s.lastGrant := by
  simp [State.arm]

@[simp] theorem arm_pending (s : State) (i : Slot) (k : DeadlineKind) (n : Nat) : (s.arm i k n).pending = s.pending := by
  simp [State.arm]

@[simp] theorem arm_standing (s : State) (i : Slot) (k : DeadlineKind) (n : Nat) : (s.arm i k n).standing = s.standing := by
  simp [State.arm]

@[simp] theorem arm_engines (s : State) (i : Slot) (k : DeadlineKind) (n : Nat) : (s.arm i k n).engines = s.engines := by
  simp [State.arm]

@[simp] theorem arm_notices (s : State) (i : Slot) (k : DeadlineKind) (n : Nat) : (s.arm i k n).notices = s.notices := by
  simp [State.arm]

@[simp] theorem disarm_point (s : State) (i j : Slot) (k : DeadlineKind) : (s.disarm i k).point j = s.point j := by
  simp [State.disarm]

@[simp] theorem arm_point (s : State) (i j : Slot) (k : DeadlineKind) (n : Nat) : (s.arm i k n).point j = s.point j := by
  simp [State.arm]

@[simp] theorem disarm_timer (s : State) (i : Slot) (k : DeadlineKind) :
    (s.disarm i k).timer = { s.timer with deadlines := s.timer.deadlines.filter fun d => !d.names i k } := by
  simp [State.disarm]

theorem arm_timer (s : State) (i : Slot) (k : DeadlineKind) (n : Nat) :
    (s.arm i k n).timer = { s.timer with
      deadlines := insertDeadline s.timer.tick
        { slot := i, kind := k, dueTick := s.timer.tick + BitVec.ofNat 32 n, due := false }
        (s.timer.deadlines.filter fun d => !d.names i k) } := by
  simp [State.arm]

/-- An insertion adds its entry and moves none out. -/
@[simp] theorem mem_insertDeadline (now : BitVec 32) (d e : Deadline) (l : List Deadline) :
    e ∈ insertDeadline now d l ↔ e = d ∨ e ∈ l := by
  induction l with
  | nil => simp [insertDeadline]
  | cons x xs ih =>
    unfold insertDeadline
    split
    · simp
    · simp [ih, or_left_comm]

/-- The entries of the list after a deadline is armed: the new one, and those of other slots and kinds. -/
theorem mem_arm (s : State) (i : Slot) (k : DeadlineKind) (n : Nat) (d : Deadline) :
    d ∈ (s.arm i k n).timer.deadlines ↔
      d = { slot := i, kind := k, dueTick := s.timer.tick + BitVec.ofNat 32 n, due := false } ∨
      (d ∈ s.timer.deadlines ∧ d.names i k = false) := by
  simp [arm_timer]

/-- An index entry joins, and none leaves. -/
@[simp] theorem mem_indexInsert (k : Key) (i : Slot) (e : Key × Slot) (l : List (Key × Slot)) :
    e ∈ indexInsert k i l ↔ e = (k, i) ∨ e ∈ l := by
  induction l with
  | nil => simp [indexInsert]
  | cons x xs ih =>
    unfold indexInsert
    split
    · simp
    · simp [ih, or_left_comm]

@[simp] theorem mem_indexRemove (i : Slot) (e : Key × Slot) (l : List (Key × Slot)) :
    e ∈ indexRemove i l ↔ e ∈ l ∧ e.2 ≠ i := by
  simp [indexRemove]

@[simp] theorem closeUpdate_index (s : State) (i : Slot) : (s.closeUpdate i).dir.index = s.dir.index := by
  unfold State.closeUpdate; split <;> (try split) <;> simp

@[simp] theorem closeUpdate_freeGranules (s : State) (i : Slot) : (s.closeUpdate i).dir.freeGranules = s.dir.freeGranules := by
  unfold State.closeUpdate; split <;> (try split) <;> simp

@[simp] theorem closeUpdate_filters (s : State) (i : Slot) (r : Port) : (s.closeUpdate i).filters r = s.filters r := by
  unfold State.closeUpdate; split <;> (try split) <;> simp

@[simp] theorem closeUpdate_queue (s : State) (i : Slot) (r : Port) : (s.closeUpdate i).queue r = s.queue r := by
  unfold State.closeUpdate; split <;> (try split) <;> simp

@[simp] theorem closeUpdate_engine (s : State) (i : Slot) (r : Port) : (s.closeUpdate i).engine r = s.engine r := by
  unfold State.closeUpdate; split <;> (try split) <;> simp

@[simp] theorem closeUpdate_record (s : State) (i : Slot) (r : Port) : (s.closeUpdate i).record r = s.record r := by
  unfold State.closeUpdate; split <;> (try split) <;> simp

@[simp] theorem closeUpdate_mute (s : State) (i : Slot) (r : Port) : (s.closeUpdate i).mute r = s.mute r := by
  unfold State.closeUpdate; split <;> (try split) <;> simp

@[simp] theorem closeUpdate_supply (s : State) (i : Slot) : (s.closeUpdate i).supply = s.supply := by
  unfold State.closeUpdate; split <;> (try split) <;> simp

@[simp] theorem closeUpdate_supervisor (s : State) (i : Slot) : (s.closeUpdate i).supervisor = s.supervisor := by
  unfold State.closeUpdate; split <;> (try split) <;> simp

@[simp] theorem closeUpdate_lastGrant (s : State) (i : Slot) : (s.closeUpdate i).lastGrant = s.lastGrant := by
  unfold State.closeUpdate; split <;> (try split) <;> simp

@[simp] theorem closeUpdate_pending (s : State) (i : Slot) : (s.closeUpdate i).pending = s.pending := by
  unfold State.closeUpdate; split <;> (try split) <;> simp

@[simp] theorem closeUpdate_standing (s : State) (i : Slot) : (s.closeUpdate i).standing = s.standing := by
  unfold State.closeUpdate; split <;> (try split) <;> simp

@[simp] theorem closeUpdate_engines (s : State) (i : Slot) : (s.closeUpdate i).engines = s.engines := by
  unfold State.closeUpdate; split <;> (try split) <;> simp

@[simp] theorem closeUpdate_notices (s : State) (i : Slot) : (s.closeUpdate i).notices = s.notices := by
  unfold State.closeUpdate; split <;> (try split) <;> simp

@[simp] theorem closeUpdate_point (s : State) (i j : Slot) :
    (s.closeUpdate i).point j =
      if i = j then (s.point j).map fun pt => { pt with updateOpen := false } else s.point j := by
  unfold State.closeUpdate
  by_cases h : i = j
  · subst h
    cases hp : s.point i with
    | none => simp [hp]
    | some pt =>
      cases ho : pt.updateOpen
      · cases pt; simp_all
      · simp [ho]
  · split
    · simp [h]
    · split <;> simp [h]

/-- Closing lowers the count of the point's owner, when an update was open (R33). -/
theorem closeUpdate_openUpdates (s : State) (i : Slot) (p : Port) :
    (s.closeUpdate i).openUpdates p =
      match s.point i with
      | none => s.openUpdates p
      | some pt => if pt.updateOpen ∧ pt.owner = p then s.openUpdates p - 1 else s.openUpdates p := by
  unfold State.closeUpdate
  cases hp : s.point i with
  | none => rfl
  | some pt =>
    cases ho : pt.updateOpen
    · simp [ho]
    · by_cases h : pt.owner = p
      · subst h; simp [ho]
      · simp [ho, h]

/-- Closing removes the HOLD entry, when an update was open (R33). -/
theorem closeUpdate_timer (s : State) (i : Slot) :
    (s.closeUpdate i).timer =
      match s.point i with
      | none => s.timer
      | some pt =>
        if pt.updateOpen then { s.timer with deadlines := s.timer.deadlines.filter fun d => !d.names i .hold } else s.timer := by
  unfold State.closeUpdate
  cases hp : s.point i with
  | none => rfl
  | some pt => cases ho : pt.updateOpen <;> simp [ho]

@[simp] theorem expireUpdate_index (s : State) (i : Slot) : (s.expireUpdate i).dir.index = s.dir.index := by
  unfold State.expireUpdate; split <;> (try split) <;> simp

@[simp] theorem expireUpdate_freeGranules (s : State) (i : Slot) : (s.expireUpdate i).dir.freeGranules = s.dir.freeGranules := by
  unfold State.expireUpdate; split <;> (try split) <;> simp

@[simp] theorem expireUpdate_filters (s : State) (i : Slot) (r : Port) : (s.expireUpdate i).filters r = s.filters r := by
  unfold State.expireUpdate; split <;> (try split) <;> simp

@[simp] theorem expireUpdate_engine (s : State) (i : Slot) (r : Port) : (s.expireUpdate i).engine r = s.engine r := by
  unfold State.expireUpdate; split <;> (try split) <;> simp

@[simp] theorem expireUpdate_record (s : State) (i : Slot) (r : Port) : (s.expireUpdate i).record r = s.record r := by
  unfold State.expireUpdate; split <;> (try split) <;> simp

@[simp] theorem expireUpdate_mute (s : State) (i : Slot) (r : Port) : (s.expireUpdate i).mute r = s.mute r := by
  unfold State.expireUpdate; split <;> (try split) <;> simp

@[simp] theorem expireUpdate_supply (s : State) (i : Slot) : (s.expireUpdate i).supply = s.supply := by
  unfold State.expireUpdate; split <;> (try split) <;> simp

@[simp] theorem expireUpdate_supervisor (s : State) (i : Slot) : (s.expireUpdate i).supervisor = s.supervisor := by
  unfold State.expireUpdate; split <;> (try split) <;> simp

@[simp] theorem expireUpdate_lastGrant (s : State) (i : Slot) : (s.expireUpdate i).lastGrant = s.lastGrant := by
  unfold State.expireUpdate; split <;> (try split) <;> simp

@[simp] theorem expireUpdate_pending (s : State) (i : Slot) : (s.expireUpdate i).pending = s.pending := by
  unfold State.expireUpdate; split <;> (try split) <;> simp

@[simp] theorem expireUpdate_standing (s : State) (i : Slot) : (s.expireUpdate i).standing = s.standing := by
  unfold State.expireUpdate; split <;> (try split) <;> simp

@[simp] theorem expireUpdate_engines (s : State) (i : Slot) : (s.expireUpdate i).engines = s.engines := by
  unfold State.expireUpdate; split <;> (try split) <;> simp

@[simp] theorem publish_index (s : State) (i : Slot) : (s.publish i).dir.index = s.dir.index := by
  unfold State.publish; split <;> (try split) <;> simp

@[simp] theorem publish_freeGranules (s : State) (i : Slot) : (s.publish i).dir.freeGranules = s.dir.freeGranules := by
  unfold State.publish; split <;> (try split) <;> simp

@[simp] theorem publish_openUpdates (s : State) (i : Slot) (r : Port) : (s.publish i).openUpdates r = s.openUpdates r := by
  unfold State.publish; split <;> (try split) <;> simp

@[simp] theorem publish_filters (s : State) (i : Slot) (r : Port) : (s.publish i).filters r = s.filters r := by
  unfold State.publish; split <;> (try split) <;> simp

@[simp] theorem publish_engine (s : State) (i : Slot) (r : Port) : (s.publish i).engine r = s.engine r := by
  unfold State.publish; split <;> (try split) <;> simp

@[simp] theorem publish_record (s : State) (i : Slot) (r : Port) : (s.publish i).record r = s.record r := by
  unfold State.publish; split <;> (try split) <;> simp

@[simp] theorem publish_mute (s : State) (i : Slot) (r : Port) : (s.publish i).mute r = s.mute r := by
  unfold State.publish; split <;> (try split) <;> simp

@[simp] theorem publish_supply (s : State) (i : Slot) : (s.publish i).supply = s.supply := by
  unfold State.publish; split <;> (try split) <;> simp

@[simp] theorem publish_supervisor (s : State) (i : Slot) : (s.publish i).supervisor = s.supervisor := by
  unfold State.publish; split <;> (try split) <;> simp

@[simp] theorem publish_lastGrant (s : State) (i : Slot) : (s.publish i).lastGrant = s.lastGrant := by
  unfold State.publish; split <;> (try split) <;> simp

@[simp] theorem publish_pending (s : State) (i : Slot) : (s.publish i).pending = s.pending := by
  unfold State.publish; split <;> (try split) <;> simp

@[simp] theorem publish_standing (s : State) (i : Slot) : (s.publish i).standing = s.standing := by
  unfold State.publish; split <;> (try split) <;> simp

@[simp] theorem publish_engines (s : State) (i : Slot) : (s.publish i).engines = s.engines := by
  unfold State.publish; split <;> (try split) <;> simp

end Sys2Proof.Machine
end

