-- ==== Sys2Proof/Laws/Notices.lean ====
section
/-! SUPPORT. What routing an event, offering to the owner and releasing references do, each said once. -/

namespace Sys2Proof.Machine

/-! ## Routing -/

theorem mem_allPorts (p : Port) : p ∈ allPorts := by
  revert p; decide

theorem allPorts_nodup : allPorts.Nodup := by decide

theorem routeFilter_congr (s t : State) (pt pt' : Point) (k : WatchKind) (p : Port) (hm : t.mute p = s.mute p)
    (hf : t.filters p = s.filters p) (ho : pt'.owner = pt.owner) (hr : pt'.readers = pt.readers) (hk : pt'.key = pt.key) :
    t.routeFilter pt' k p = s.routeFilter pt k p := by
  simp [State.routeFilter, Point.isReader, hm, hf, ho, hr, hk]

/-- A port that R73 routes an event to is not mute. -/
theorem routeFilter_mute (s : State) (pt : Point) (k : WatchKind) (p : Port) (f : FilterNo) (h : s.routeFilter pt k p = some f) :
    s.mute p = false := by
  unfold State.routeFilter at h
  cases hm : s.mute p <;> simp_all

/-- One port's turn in the routing of an event. -/
theorem routeTo_eq (i : Slot) (k : WatchKind) (mk : FilterNo → Notice) (s : State) (p : Port) (pt : Point) (h : s.point i = some pt) :
    State.routeTo i k mk s p =
      match s.routeFilter pt k p with
      | none => s
      | some f => s.offer p (mk f) := by
  unfold State.routeTo
  generalize s.point i = x at h
  subst h; rfl

theorem routeTo_filters (i : Slot) (k : WatchKind) (mk : FilterNo → Notice) (s : State) (p r : Port) :
    (State.routeTo i k mk s p).filters r = s.filters r := by
  unfold State.routeTo; split
  · rfl
  · split <;> simp

theorem routeTo_mute (i : Slot) (k : WatchKind) (mk : FilterNo → Notice) (s : State) (p r : Port) :
    (State.routeTo i k mk s p).mute r = s.mute r := by
  unfold State.routeTo; split
  · rfl
  · split <;> simp

theorem routeTo_queue_ne (i : Slot) (k : WatchKind) (mk : FilterNo → Notice) (s : State) (p r : Port) (h : p ≠ r) :
    (State.routeTo i k mk s p).queue r = s.queue r := by
  unfold State.routeTo; split
  · rfl
  · split <;> simp [h]

/-- The queues and the table after one port's turn. -/
theorem routeTo_spec (i : Slot) (k : WatchKind) (mk : FilterNo → Notice) (hmk : ∀ f, (mk f).slot? = some i) (s : State) (p : Port)
    (pt : Point) (h : s.point i = some pt) :
    (State.routeTo i k mk s p).queue p = (s.delivery pt k mk p).1 ∧
    (State.routeTo i k mk s p).point i = some { pt with refs := pt.refs + if (s.delivery pt k mk p).2 then 1 else 0 } ∧
    ∀ j, j ≠ i → (State.routeTo i k mk s p).point j = s.point j := by
  rw [routeTo_eq i k mk s p pt h]
  unfold State.delivery
  cases hf : s.routeFilter pt k p with
  | none => simp [h]
  | some f =>
    have hm := routeFilter_mute s pt k p f hf
    refine ⟨by simp [hm], ?_, ?_⟩
    · rw [offer_point]
      cases ha : (offerQueue (s.queue p) (mk f)).2 <;> simp [hm, hmk, h]
    · intro j hj
      rw [offer_point, if_neg]
      rw [hmk]; simp only [Option.some.injEq]; exact fun hc => hj hc.2.2.symm

theorem delivery_congr (s t : State) (pt pt' : Point) (k : WatchKind) (mk : FilterNo → Notice) (p : Port) (hm : t.mute p = s.mute p)
    (hf : t.filters p = s.filters p) (hq : t.queue p = s.queue p) (ho : pt'.owner = pt.owner) (hr : pt'.readers = pt.readers)
    (hk : pt'.key = pt.key) : t.delivery pt' k mk p = s.delivery pt k mk p := by
  unfold State.delivery
  rw [routeFilter_congr s t pt pt' k p hm hf ho hr hk, hq]

/-- The queues and the table after the turns of the ports `l`. -/
theorem routed_spec (i : Slot) (k : WatchKind) (mk : FilterNo → Notice) (hmk : ∀ f, (mk f).slot? = some i) (l : List Port)
    (hl : l.Nodup) (s : State) (pt : Point) (h : s.point i = some pt) :
    (∀ q, (l.foldl (State.routeTo i k mk) s).queue q = if q ∈ l then (s.delivery pt k mk q).1 else s.queue q) ∧
    (l.foldl (State.routeTo i k mk) s).point i = some { pt with refs := pt.refs + l.countP fun q => (s.delivery pt k mk q).2 } ∧
    ∀ j, j ≠ i → (l.foldl (State.routeTo i k mk) s).point j = s.point j := by
  induction l generalizing s pt with
  | nil => simp [h]
  | cons p l ih =>
    obtain ⟨hq, hi, hj⟩ := routeTo_spec i k mk hmk s p pt h
    rw [List.nodup_cons] at hl
    obtain ⟨hq', hi', hj'⟩ := ih hl.2 (State.routeTo i k mk s p) _ hi
    have hd : ∀ q ∈ l, (State.routeTo i k mk s p).delivery
        { pt with refs := pt.refs + if (s.delivery pt k mk p).2 then 1 else 0 } k mk q = s.delivery pt k mk q := by
      intro q hql
      have hpq : p ≠ q := fun hc => hl.1 (hc ▸ hql)
      exact delivery_congr s _ pt _ k mk q (routeTo_mute ..) (routeTo_filters ..) (routeTo_queue_ne _ _ _ _ _ _ hpq) rfl rfl rfl
    refine ⟨?_, ?_, ?_⟩
    · intro q
      rw [List.foldl_cons, hq']
      by_cases hql : q ∈ l
      · simp [hql, hd q hql]
      · by_cases hqp : q = p
        · subst hqp; simp [hl.1, hq]
        · simp [hql, hqp, routeTo_queue_ne _ _ _ _ _ _ (Ne.symm hqp)]
    · rw [List.foldl_cons, hi']
      have : l.countP (fun q => ((State.routeTo i k mk s p).delivery
          { pt with refs := pt.refs + if (s.delivery pt k mk p).2 then 1 else 0 } k mk q).2) =
          l.countP (fun q => (s.delivery pt k mk q).2) :=
        List.countP_congr fun q hql => by rw [hd q hql]
      rw [this, List.countP_cons]
      simp only [Option.some.injEq]
      congr 1
      omega
    · intro j hji
      rw [List.foldl_cons, hj' j hji, hj j hji]

/-- Everything the routing of an event does to the queues and the table (R19, R73). -/
theorem route_spec (s : State) (i : Slot) (k : WatchKind) (mk : FilterNo → Notice) (hmk : ∀ f, (mk f).slot? = some i) (pt : Point)
    (h : s.point i = some pt) :
    (∀ q, (s.route i k mk).queue q = (s.delivery pt k mk q).1) ∧
    (s.route i k mk).point i = some { pt with refs := pt.refs + s.deliveries pt k mk } ∧
    ∀ j, j ≠ i → (s.route i k mk).point j = s.point j := by
  obtain ⟨hq, hi, hj⟩ := routed_spec i k mk hmk allPorts allPorts_nodup s pt h
  exact ⟨fun q => by simpa [State.route, mem_allPorts] using hq q, hi, hj⟩

/-! ## References released -/

/-- A slot after the entries of `l` have left, one by one. -/
theorem lowerRefs_point (l : List Slot) (s : State) (j : Slot) :
    (l.foldl State.lowerRef s).point j = drained (s.point j) (l.count j) := by
  induction l generalizing s with
  | nil =>
    simp only [List.foldl_nil, List.count_nil, drained]
    cases s.point j with
    | none => rfl
    | some pt => simp
  | cons i l ih =>
    rw [List.foldl_cons, ih, lowerRef_point]
    by_cases h : i = j
    · subst h
      rw [if_pos rfl, List.count_cons_self]
      cases s.point i with
      | none => rfl
      | some pt =>
        simp only [drained, Option.bind_some]
        by_cases hr : pt.state = .retiring
        · by_cases hz : pt.refs - 1 = 0
          · rw [if_pos ⟨hr, hz⟩, if_pos ⟨hr, by omega, by omega⟩]; rfl
          · rw [if_neg fun hc => hz hc.2]
            simp only [Option.bind_some]
            by_cases hk : pt.refs ≤ l.count i + 1
            · rw [if_pos ⟨hr, by omega, by omega⟩, if_pos ⟨hr, by omega, hk⟩]
            · rw [if_neg fun hc => by omega, if_neg fun hc => hk hc.2.2]
              simp only [Option.some.injEq, Point.mk.injEq, true_and]; omega
        · rw [if_neg fun hc => hr hc.1]
          simp only [Option.bind_some]
          rw [if_neg fun hc => hr hc.1, if_neg fun hc => hr hc.1]
          simp only [Option.some.injEq, Point.mk.injEq, true_and]; omega
    · rw [if_neg h, List.count_cons_of_ne h]

theorem count_filterMap_slot (ns : List Notice) (j : Slot) : (ns.filterMap Notice.slot?).count j = namedIn ns j := by
  induction ns with
  | nil => rfl
  | cons n ns ih =>
    unfold namedIn at *
    rw [List.filterMap_cons, List.countP_cons]
    cases h : n.slot? with
    | none => simp [ih]
    | some i =>
      by_cases hij : i = j
      · subst hij; simp [ih]
      · simp [ih, hij]

/-- Each slot after the entries `ns` have left a queue (R19, R20, R85). -/
theorem releaseRefs_point (s : State) (ns : List Notice) (j : Slot) :
    (s.releaseRefs ns).point j = drained (s.point j) (namedIn ns j) := by
  unfold State.releaseRefs
  rw [lowerRefs_point, count_filterMap_slot]

/-- The index loses the entries of exactly the slots that become FREE (R12). -/
theorem lowerRefs_index (l : List Slot) (s : State) (e : Key × Slot) :
    e ∈ (l.foldl State.lowerRef s).dir.index ↔
      e ∈ s.dir.index ∧ ¬((s.point e.2).isSome ∧ ((l.foldl State.lowerRef s).point e.2).isNone) := by
  induction l generalizing s with
  | nil => cases h : s.point e.2 <;> simp [h]
  | cons i l ih =>
    rw [List.foldl_cons, ih, lowerRef_index, lowerRefs_point, lowerRef_point]
    cases hp : s.point i with
    | none =>
      by_cases h : i = e.2
      · subst h; simp [hp]
      · simp [h]
    | some pt =>
      by_cases hd : pt.state = .retiring ∧ pt.refs - 1 = 0
      · by_cases h : i = e.2
        · subst h; simp [hp, hd, drained]
        · simp [hd, h, Ne.symm h]
      · by_cases h : i = e.2
        · subst h; simp [hp, hd]
        · simp [hd, h]

/-- The index after the entries `ns` have left a queue (R12, R20). -/
theorem releaseRefs_index (s : State) (ns : List Notice) (e : Key × Slot) :
    e ∈ (s.releaseRefs ns).dir.index ↔
      e ∈ s.dir.index ∧ ¬((s.point e.2).isSome ∧ ((s.releaseRefs ns).point e.2).isNone) :=
  lowerRefs_index _ s e

@[simp] theorem flushQueue_point (s : State) (p : Port) (j : Slot) :
    (s.flushQueue p).point j = drained (s.point j) (namedIn (s.queue p) j) := by
  unfold State.flushQueue
  rw [releaseRefs_point, setQueue_point]

/-! ## Coalescing -/

/-- What a queued entry absorbs is exactly what R77 lists. -/
theorem absorb_iff_merges (e n m : Notice) : e.absorb n = some m ↔ Merges e n m := by
  constructor
  · intro h
    cases e <;> cases n <;> simp only [Notice.absorb, reduceCtorEq, Option.ite_none_right_eq_some, Option.some.injEq] at h <;>
      (obtain ⟨rfl, rfl⟩ := h; constructor)
  · intro h
    cases h <;> simp [Notice.absorb]

end Sys2Proof.Machine
end

