-- ==== Sys2Proof/Laws/Link.lean ====
section
/-! SUPPORT. What the operations of the port link and the grants do, each said once: handing a response back, a port's grant, a frame the
engine answers itself, a withdrawn request, and the grants to the timer and standing units. -/

namespace Sys2Proof.Machine

open Host (Outcome)

/-! ## What the standing unit presents -/

theorem heldRequest_setStandingRequest (s : State) (r : Option StandingRequest) :
    (s.setStandingRequest r).heldRequest = s.heldRequest := rfl

theorem presentHeld_request (s : State) : s.presentHeld.standing.request = s.standing.request.or s.presentHeld.heldRequest := by
  unfold State.presentHeld
  cases h : s.standing.request with
  | none => simp [heldRequest_setStandingRequest]
  | some r => simp [h]

/-- Presenting a held request changes the standing unit's presented request and nothing else. -/
theorem presentHeld_eq (s : State) :
    s.presentHeld = s.setStandingRequest (s.standing.request.or s.heldRequest) := by
  unfold State.presentHeld
  cases h : s.standing.request with
  | none => rfl
  | some r => simp only [Option.some_or]; rw [← h]; rfl

@[simp] theorem presentHeld_engine (s : State) (q : Port) : s.presentHeld.engine q = s.engine q := by
  simp [presentHeld_eq]

@[simp] theorem presentHeld_record (s : State) (q : Port) : s.presentHeld.record q = s.record q := by
  rw [presentHeld_eq]; rfl

@[simp] theorem presentHeld_mute (s : State) (q : Port) : s.presentHeld.mute q = s.mute q := by
  rw [presentHeld_eq]; rfl

@[simp] theorem presentHeld_lastPort (s : State) : s.presentHeld.standing.lastPort = s.standing.lastPort := by
  rw [presentHeld_eq]; rfl

@[simp] theorem presentHeld_recs (s : State) : s.presentHeld.standing.recs = s.standing.recs := by
  rw [presentHeld_eq]; rfl

@[simp] theorem presentHeld_dir (s : State) : s.presentHeld.dir = s.dir := by
  rw [presentHeld_eq]; rfl

@[simp] theorem presentHeld_notices (s : State) : s.presentHeld.notices = s.notices := by
  rw [presentHeld_eq]; rfl

@[simp] theorem presentHeld_timer (s : State) : s.presentHeld.timer = s.timer := by
  rw [presentHeld_eq]; rfl

@[simp] theorem presentHeld_supply (s : State) : s.presentHeld.supply = s.supply := by
  rw [presentHeld_eq]; rfl

@[simp] theorem presentHeld_lastGrant (s : State) : s.presentHeld.lastGrant = s.lastGrant := by
  rw [presentHeld_eq]; rfl

@[simp] theorem presentHeld_pending (s : State) : s.presentHeld.pending = s.pending := by
  rw [presentHeld_eq]; rfl

/-! ## An outcome settled -/

/-- Settling an outcome: the record moves, the engine falls silent if the port is then mute, and nothing else of the ports changes. -/
theorem settleOutcome_spec (s : State) (p : Port) (st : Status) :
    (s.settleOutcome p st).engine p = (if (s.settleOutcome p st).mute p then (s.engine p).silence else s.engine p) ∧
    (s.settleOutcome p st).record p = (s.record p).after (p == s.supervisor) st ∧
    (∀ q, q ≠ p → (s.settleOutcome p st).engine q = s.engine q ∧ (s.settleOutcome p st).record q = s.record q) ∧
    (s.settleOutcome p st).standing.request = s.standing.request.or (s.settleOutcome p st).heldRequest ∧
    (s.settleOutcome p st).standing.lastPort = s.standing.lastPort := by
  have hm : ((s.scoreOutcome p st).muteEngine p).mute p = (s.scoreOutcome p st).mute p := by
    unfold State.muteEngine; split <;> simp
  refine ⟨?_, ?_, ?_, ?_, ?_⟩
  · simp only [State.settleOutcome, presentHeld_engine, presentHeld_mute, hm]
    unfold State.muteEngine
    split <;> simp [State.scoreOutcome]
  · simp only [State.settleOutcome, presentHeld_record]
    unfold State.muteEngine
    split <;> simp [State.scoreOutcome]
  · intro q hq
    simp only [State.settleOutcome, presentHeld_engine, presentHeld_record]
    unfold State.muteEngine
    split <;> simp [State.scoreOutcome, Ne.symm hq]
  · simp only [State.settleOutcome]
    rw [presentHeld_request]
    unfold State.muteEngine
    split <;> simp [State.scoreOutcome, State.setRecord]
  · simp only [State.settleOutcome, presentHeld_lastPort]
    unfold State.muteEngine
    split <;> simp [State.scoreOutcome, State.setRecord]

theorem settleOutcome_keeps (s : State) (p : Port) (st : Status) :
    (s.settleOutcome p st).dir = s.dir ∧ (s.settleOutcome p st).notices = s.notices ∧ (s.settleOutcome p st).timer = s.timer ∧
    (s.settleOutcome p st).supply = s.supply ∧ (s.settleOutcome p st).lastGrant = s.lastGrant ∧
    (s.settleOutcome p st).pending = s.pending := by
  simp only [State.settleOutcome, presentHeld_dir, presentHeld_notices, presentHeld_timer, presentHeld_supply, presentHeld_lastGrant,
    presentHeld_pending]
  unfold State.muteEngine
  split <;> simp [State.scoreOutcome]

/-! ## Runs of NOP frames -/

@[simp] theorem setEngine_self (s : State) (p : Port) : s.setEngine p (s.engine p) = s := by
  unfold State.setEngine State.engine
  have h : s.engines.set p.val (s.engines.get p) p.isLt = s.engines := by
    apply Vector.ext
    intro k hk
    by_cases hp : p.val = k
    · subst hp; simp [Vector.get]
    · simp [hp]
  rw [h]

@[simp] theorem setEngine_setEngine (s : State) (p : Port) (e e' : Engine) : (s.setEngine p e).setEngine p e' = s.setEngine p e' := by
  unfold State.setEngine
  simp

theorem breakRun_eq (s : State) (p : Port) :
    s.breakRun p = s.setEngine p
      { s.engine p with restoreCount := runAfter ((s.record p).standing == .restoring) false (s.engine p).restoreCount } := by
  have hs := setEngine_self s p
  unfold State.breakRun runAfter
  by_cases hr : (s.record p).standing = .restoring
  · by_cases hc : (s.engine p).restoreCount = 32
    · have he : { s.engine p with restoreCount := 32 } = s.engine p := by rw [← hc]
      simp [hr, hc, Config.restoreRun, he]
    · simp [hr, hc, Config.restoreRun]
  · simp only [hr, false_and, if_false, beq_eq_false_iff_ne.mpr hr, true_or, if_true]
    exact hs.symm

theorem extendRun_eq (s : State) (p : Port) :
    s.extendRun p = s.setEngine p
      { s.engine p with restoreCount := runAfter ((s.record p).standing == .restoring) true (s.engine p).restoreCount } := by
  have hs := setEngine_self s p
  unfold State.extendRun runAfter
  by_cases hr : (s.record p).standing = .restoring
  · by_cases hc : (s.engine p).restoreCount = 32
    · have he : { s.engine p with restoreCount := 32 } = s.engine p := by rw [← hc]
      simp [hr, hc, Config.restoreRun, he]
    · simp [hr, hc, Config.restoreRun]
  · simp only [hr, false_and, if_false, beq_eq_false_iff_ne.mpr hr, true_or, if_true]
    exact hs.symm

/-! ## An answer handed back -/

/-- Everything that handing back a response does (R130, R136, R143, R149, R155), once the grant is the port's. -/
theorem handBack_answered (s : State) (p : Port) (tag : Byte) (c : Command) (r : Reply) (hg : s.lastGrant = .port p) :
    Answered s (s.handBack p tag c r) p tag c r.status r.body ∧ DirectoryKept s (s.handBack p tag c r) := by
  set e0 : Engine := { s.engine p with
    request := none, hold := some { tag := tag, command := c, status := r.status, body := r.body } } with he0
  set run := runAfter ((s.record p).standing == .restoring) (c == .nop && r.status == .ok) (s.engine p).restoreCount with hrun
  set a : Answer := { tag := tag, status := r.status, body := r.body, atCheck := false } with ha
  have hh : s.handBack p tag c r = (s.setEngine p { e0.send a with restoreCount := run }).settleOutcome p r.status := by
    have hc : (e0.send a).restoreCount = (s.engine p).restoreCount := by
      simp only [Engine.send, he0]; split <;> rfl
    unfold State.handBack
    simp only [extendRun_eq, breakRun_eq, State.send, setEngine_engine, if_true, setEngine_setEngine, setEngine_record]
    by_cases hn : c = .nop ∧ r.status = .ok
    · obtain ⟨h1, h2⟩ := hn
      simp only [h1, h2, and_self, if_true] at *
      rw [← ha, ← he0, hc]
      simp [hrun]
    · rw [if_neg hn]
      have hf : (c == .nop && r.status == .ok) = false := by
        simpa using hn
      rw [← ha, ← he0, hc, hrun, hf]
  rw [hh]
  obtain ⟨h1, h2, h3, h4, h5⟩ := settleOutcome_spec (s.setEngine p { e0.send a with restoreCount := run }) p r.status
  obtain ⟨k1, k2, k3, k4, k5, k6⟩ := settleOutcome_keeps (s.setEngine p { e0.send a with restoreCount := run }) p r.status
  refine ⟨⟨?_, ?_, ?_, ?_, ?_, ?_, ?_, ?_⟩, ?_, ?_, ?_⟩
  · rw [h1, setEngine_engine, if_pos rfl]
    unfold Engine.leaves Engine.send Engine.silence Engine.blankPeriod
    cases hp : (s.engine p).period <;> cases hm : State.mute _ p <;> simp [he0, hp, Period.isActive, ha] <;> exact hrun
  · rw [h2]; simp
  · intro q hq
    obtain ⟨x, y⟩ := h3 q hq
    exact ⟨by rw [x]; simp [Ne.symm hq], by rw [y]; simp⟩
  · rw [k5]; simpa using hg
  · rw [k4]; simp
  · rw [k6]; simp
  · rw [h5]; simp
  · rw [h4]; simp
  · rw [k1]; simp
  · rw [k2]; simp
  · rw [k3]; simp

/-- `Answered` looks at the state before an operation only through the ports, the standing unit and the supply watch. -/
theorem Answered.of_same {s u t : State} {p : Port} {tag : Byte} {c : Command} {st : Status} {body : List Byte}
    (h : Answered u t p tag c st body) (he : ∀ q, u.engine q = s.engine q) (hr : u.standing = s.standing)
    (hw : u.supply = s.supply) (hp : u.pending = s.pending) : Answered s t p tag c st body := by
  have hrec : ∀ q, u.record q = s.record q := fun q => by simp [State.record, hr]
  unfold Answered at *
  simp only [he, hrec, hr, hw, hp, State.supervisor] at h ⊢
  exact h

/-! ## Grants -/

/-- A port's request that is taken is carried out and its response handed back. -/
theorem grantPort_of_taken {s : State} {p : Port} {tag : Byte} {r : Request} (op : State → State × Reply) (h : Taken s p tag r) :
    s.grantPort p r op =
      .next ((op (s.setGrant (.port p))).1.handBack p tag r.command (op (s.setGrant (.port p))).2) := by
  unfold State.grantPort
  simp [h.1, h.2]

/-- A port's request that is not taken changes nothing. -/
theorem grantPort_of_not_taken {s : State} {p : Port} {r : Request} (op : State → State × Reply) (h : ∀ tag, ¬Taken s p tag r) :
    s.grantPort p r op = .next s := by
  unfold State.grantPort
  cases hq : (s.engine p).request with
  | none => rfl
  | some pr =>
    simp only
    rw [if_neg]
    rintro ⟨h1, h2⟩
    exact h pr.tag ⟨by rw [hq, ← h1], h2⟩

/-- An operation on the directory alone, taken for a port: the answer, and the directory the operation leaves. -/
theorem grantPort_answered {s : State} {p : Port} {tag : Byte} {r : Request} (op : State → State × Reply) (h : Taken s p tag r)
    {u : State} {reply : Reply} (hop : op (s.setGrant (.port p)) = (u, reply)) (he : ∀ q, u.engine q = s.engine q)
    (hr : u.standing = s.standing) (hw : u.supply = s.supply) (hp : u.pending = s.pending) (hg : u.lastGrant = .port p) :
    ∃ t, s.grantPort p r op = .next t ∧ Answered s t p tag r.command reply.status reply.body ∧ DirectoryKept u t := by
  refine ⟨u.handBack p tag r.command reply, ?_, ?_, ?_⟩
  · rw [grantPort_of_taken op h, hop]
  · exact (handBack_answered u p tag r.command reply hg).1.of_same he hr hw hp
  · exact (handBack_answered u p tag r.command reply hg).2

/-- The timer unit's granted request: carried out if its entry is due, dropped otherwise (R100). -/
theorem grantTimer_granted {s : State} {i : Slot} {k : DeadlineKind} (op : State → State) (h : s.timer.request = some (i, k))
    (hg : s.nextGrant = some .timer) :
    s.grantTimer i k op = .next (if s.isDue i k then op ((s.setTimer { s.timer with request := none }).setGrant .timer)
      else (s.setTimer { s.timer with request := none }).setGrant .timer) := by
  unfold State.grantTimer
  rw [if_pos ⟨h, hg⟩]
  have hd : ((s.setTimer { s.timer with request := none }).setGrant .timer).isDue i k = s.isDue i k := rfl
  simp only [hd]
  split <;> rfl

/-- The standing unit's granted request: the rotation moves, the operation is carried out and the next held request presented (R135). -/
theorem grantStanding_granted {s : State} {r : StandingRequest} {p : Port} (op : State → State) (h : s.standing.request = some r)
    (hg : s.nextGrant = some .standing) :
    s.grantStanding r p op = .next (op (((s.setStandingRequest none).setLastPort p).setGrant .standing)).presentHeld := by
  unfold State.grantStanding
  rw [if_pos ⟨h, hg⟩]

/-! ## DISCARD of an orphaned point -/

/-- A DISCARD by the owner of a point with no update open changes nothing and is answered NOT_OPEN, whatever the owner's standing, and so also
where the owner stands RESTORING and the point is orphaned (R40, R133; log 26). -/
theorem discardOp_notOpen {s : State} {p : Port} {i : Slot} {pt : Point} (h : s.point i = some pt) (ho : pt.owner = p)
    (hs : pt.state ≠ .retiring) (hu : pt.updateOpen = false) : discardOp p i s = (s, .refuse .notOpen) := by
  simp [discardOp, h, ho, hs, hu]

/-! ## Straps -/

/-- SUP1 is the more significant bit of the number of the port that the straps name. -/
theorem strapPort_val (sup : BitVec 2) :
    (strapPort sup).val = (if sup.getLsbD 1 then 2 else 0) + (if sup.getLsbD 0 then 1 else 0) := by
  revert sup; decide

/-- On entry to RESET the latched straps are those the strap inputs give, and the inputs are as they were. -/
theorem enterReset_straps (s : State) :
    s.enterReset.supply.sup = strapPort s.supply.supStraps ∧ s.enterReset.supply.swm = strapAction s.supply.swmStrap ∧
    s.enterReset.supply.supStraps = s.supply.supStraps ∧ s.enterReset.supply.swmStrap = s.supply.swmStrap :=
  ⟨rfl, rfl, rfl, rfl⟩

end Sys2Proof.Machine
end

