-- ==== Sys2Proof/Tests/Slice0.lean ====
section
/-! SUPPORT. Tests: ill-formed commands refused by WellFormed, the manual's worked frames, one step for each command with results from the
manual, and for every statement with hypotheses a concrete state that meets them (`witness_…`). -/

namespace Sys2Proof.Tests

open Sys2Proof Sys2Proof.Machine

-- One theorem after another: many kernel evaluations at once would need a thread each.
set_option Elab.async false

/-! ## WellFormed refuses -/

theorem test_write_without_data_refused : (Instr.write 0 3 0 []).wellFormed = false := by decide +kernel
theorem test_put_of_17_bytes_refused : (Instr.put 0 3 0 (List.replicate 17 0)).wellFormed = false := by decide +kernel
theorem test_put_of_16_bytes_accepted : (Instr.put 0 3 0 (List.replicate 16 0)).wellFormed = true := by decide +kernel
theorem test_cut_frame_refused : (Instr.badFrame 0 [0x01, 0x07, 0x01, 0x00]).wellFormed = false := by decide +kernel
theorem test_cut_checkFail_refused : (Instr.checkFail 0 [0x01, 0x07]).wellFormed = false := by decide +kernel
theorem test_overlong_held_refused : (Instr.held 0 [0x01, 0x07, 0x00, 0x00, 0xFF]).wellFormed = false := by decide +kernel
theorem test_empty_resend_refused : (Instr.resend 0 []).wellFormed = false := by decide +kernel
theorem test_cut_presented_refused : (Instr.requestPresented 0 [0x20, 0x07, 0x01, 0x03]).wellFormed = false := by decide +kernel
theorem test_write_request_refused : (Request.write 3 0 []).wellFormed = false := by decide +kernel

/-! ## Frames (10.1, 10.3, 10.5) -/

theorem test_crc_of_digits : crc8 [0x31, 0x32, 0x33, 0x34, 0x35, 0x36, 0x37, 0x38, 0x39] = 0xF4 := by decide +kernel
theorem test_nop_frame_tag_7 : checkFrame [0x01, 0x07, 0x00, 0x00] = .good 0x07 .nop := by decide +kernel
theorem test_nop_frame_tag_0 : checkFrame [0x01, 0x00, 0x00, 0x6B] = .good 0x00 .nop := by decide +kernel
theorem test_nop_answer : Answer.bytes { tag := 0x07, status := .ok, body := [], atCheck := false } = [0x5C, 0x07, 0x00, 0x00, 0x16] := by decide +kernel
theorem test_changed_record :
    Notice.encode (.changed 4 0x020010 9 1 true) = [0x01, 0x81, 0x04, 0x02, 0x00, 0x10, 0x00, 0x09] := by decide +kernel
theorem test_bad_command_before_bad_check : checkFrame [0x05, 0x07, 0x00, 0x99] = .badFrame 0x07 := by decide +kernel
theorem test_reserved_setting_bit : checkFrame [0x03, 0x07, 0x01, 0x02, 0x00] = .badFrame 0x07 := by decide +kernel
theorem test_wrong_check_byte : checkFrame [0x01, 0x07, 0x00, 0x01] = .checkFail 0x07 := by decide +kernel
theorem test_len_above_24 : checkFrame ([0x21, 0x07, 25] ++ List.replicate 26 0) = .badFrame 0x07 := by decide +kernel
theorem test_incomplete : checkFrame [0x01, 0x07, 0x00] = .incomplete := by decide +kernel

/-! ## A small part to test on -/

/-- RUNNING, P0 the supervisor port, SWM latched FREEZE, the rest as after reset. -/
def running : State :=
  { State.reset with supply := { SupplyWatch.reset with state := .running, vddValid := true } }

/-- `s` with port `p`'s request `r` in flight under tag 31h, its period still open. -/
def asking (s : State) (p : Port) (r : Request) : State :=
  s.setEngine p { s.engine p with link := .inFlight, period := .active 0x08 0x00, request := some { tag := 0x31, request := r } }

/-- A LIVE point of P1 that P2 may read, four bytes wide, fresh for 50 ticks, at the last version before the wrap. -/
def live : Point :=
  { state := .live, key := 0x001000, owner := 1, width := 4, readers := 0b0100, fresh := 50, version := 65535, committed := [1, 2, 3, 4]
    pendingBuf := [1, 2, 3, 4], updateOpen := false, refreshPending := false, orphaned := false, refs := 0 }

/-- The same point with an update open on it. -/
def opened : Point := { live with updateOpen := true, pendingBuf := [1, 2, 9, 9] }

/-- FRESH and HOLD entries of slot 3, not yet due at tick 0. -/
def freshEntry : Deadline := { slot := 3, kind := .fresh, dueTick := 50, due := false }
def holdEntry : Deadline := { slot := 3, kind := .hold, dueTick := 200, due := false }

/-- `running` with the point `pt` in slot 3, its index entry, its granules taken, and the deadline list `ds`. -/
def withPoint (pt : Point) (ds : List Deadline) : State :=
  (((running.setPoint 3 (some pt)).setIndex [(pt.key, 3)]).setFreeGranules (1024 - pt.granules)).setDeadlines ds

theorem withPoint_point (pt : Point) (ds : List Deadline) (i : Slot) :
    (withPoint pt ds).point i = if 3 = i then some pt else none := by
  simp only [withPoint, State.setDeadlines, setTimer_point, setFreeGranules_point, setIndex_point, setPoint_point]
  split
  · rfl
  · exact reset_point i

/-- Every slot but slot 3 is FREE. -/
theorem withPoint_forall {P : Slot → Option Point → Prop} {pt : Point} (ds : List Deadline) (h : P 3 (some pt))
    (hn : ∀ i, i ≠ 3 → P i none) (i : Slot) : P i ((withPoint pt ds).point i) := by
  rw [withPoint_point]
  by_cases h3 : 3 = i
  · subst h3; simpa using h
  · simpa [h3] using hn i (Ne.symm h3)

/-- P2 watches every key, through filter 2, for every kind. -/
def watched (s : State) : State :=
  s.setFilters 2 ((s.filters 2).set 2 { inUse := true, key := 0, mask := 0, kinds := 0b1111 })

/-- The state after a command. -/
def after (c : Instr) (s : State) : State :=
  match exec c s with
  | .next t => t
  | .fault _ => s
  | .refused _ => s

/-- An outcome is a next state. -/
def isNext : Host.Outcome State Fault Refusal → Bool
  | .next _ => true
  | .fault _ => false
  | .refused _ => false

theorem exists_next {o : Host.Outcome State Fault Refusal} (h : isNext o = true) : ∃ t, o = .next t := by
  cases o with
  | next t => exact ⟨t, rfl⟩
  | fault r => cases h
  | refused r => cases h

/-! ## A state that keeps every law, and is not empty -/

/-- LIVE with an update open and one CHANGED notice of it queued for P2; P1's COMMIT presented and at the front of the queue. -/
def demo : State :=
  { (asking (((watched (withPoint { opened with refs := 1 } [freshEntry, holdEntry])).setQueue 2
      [.changed 3 0x001000 65535 2 false]).setOpenUpdates 1 1) 1 (.commit 3)) with pending := [.commit 1 3] }

theorem demo_point (i : Slot) : demo.point i = if 3 = i then some { opened with refs := 1 } else none :=
  withPoint_point _ [freshEntry, holdEntry] i

/-- Every slot of `demo` but slot 3 is FREE. -/
theorem demo_forall {P : Slot → Option Point → Prop} (h : P 3 (some { opened with refs := 1 })) (hn : ∀ i, i ≠ 3 → P i none) (i : Slot) :
    P i (demo.point i) := withPoint_forall [freshEntry, holdEntry] h hn i

theorem demo_store : StoreAccounted demo := by
  have h : demo.heldBy = fun i => if i = 3 then 2 else 0 := by
    funext i
    unfold State.heldBy
    exact demo_forall (P := fun i x => (match x with
      | none => 0
      | some pt => pt.granules) = if i = 3 then 2 else 0) (by decide) (fun i h => by simp [h]) i
  unfold StoreAccounted
  rw [h]; decide +kernel

theorem withPoint_index (pt : Point) (ds : List Deadline) : IndexExact (withPoint pt ds) := by
  refine ⟨List.pairwise_singleton _ _, ?_, fun i q => ?_⟩
  · intro e he
    change e ∈ [(pt.key, (3 : Slot))] at he
    rw [List.mem_singleton] at he
    subst he
    exact ⟨pt, by rw [withPoint_point]; rfl, rfl⟩
  · exact withPoint_forall (P := fun i x => q ∈ x → (q.key, i) ∈ [(pt.key, (3 : Slot))]) ds (fun h => by cases h; simp)
      (fun _ _ h => by cases h) i

theorem demo_index : IndexExact demo := withPoint_index { opened with refs := 1 } [freshEntry, holdEntry]

theorem demo_refs : RefsExact demo := by
  intro i
  have h : demo.namings i = if 3 = i then 1 else 0 := by revert i; decide +kernel
  rw [demo_point, h]
  by_cases h3 : 3 = i <;> simp [h3, opened, live]

theorem withPoint_records {pt : Point} (ds : List Deadline) (h : pt.sound) : RecordsSound (withPoint pt ds) := fun i q =>
  withPoint_forall (P := fun _ x => q ∈ x → q.sound) ds (fun hq => by cases hq; exact h) (fun _ _ hq => by cases hq) i

theorem live_sound : live.sound := ⟨by decide, by decide, by decide, by decide, by decide⟩
theorem opened_sound : opened.sound := ⟨by decide, by decide, by decide, by decide, by decide⟩

theorem demo_records : RecordsSound demo := withPoint_records (pt := { opened with refs := 1 }) [freshEntry, holdEntry] opened_sound

theorem demo_updates : UpdatesCounted demo := by
  have h : ∀ p, demo.openOwned p = if p = 1 then 1 else 0 := by
    intro p
    have hf : demo.openOwned p = allSlots.countP fun i => i == 3 && p == 1 :=
      congrArg (List.countP · allSlots) (funext fun i =>
        demo_forall (P := fun i x => (match x with
          | none => false
          | some pt => pt.owner == p && pt.updateOpen) = (i == 3 && p == 1)) (by revert p; decide) (fun i h => by simp [h]) i)
    rw [hf]; revert p; decide +kernel
  refine ⟨fun p => ?_, fun i pt => ?_⟩
  · rw [h]; revert p; decide +kernel
  · exact demo_forall (P := fun _ x => pt ∈ x → pt.state = .retiring → pt.updateOpen = false)
      (fun h hs => by cases h; cases hs) (fun _ _ h => by cases h) i

/-- The deadlines of the point with an update open, due or not. -/
def bothEntries (a b : Bool) : List Deadline := [{ freshEntry with due := a }, { holdEntry with due := b }]

theorem opened_deadlines (a b : Bool) {pt : Point} (hl : pt.state = .live) (hf : pt.fresh ≠ 0) (ho : pt.updateOpen = true) :
    DeadlinesExact (withPoint pt (bothEntries a b)) := by
  have hx : ∀ (f : Point → Prop) (i : Slot), (∃ q ∈ (withPoint pt (bothEntries a b)).point i, f q) ↔ i = 3 ∧ f pt := fun f i =>
    withPoint_forall (P := fun i x => (∃ q ∈ x, f q) ↔ i = 3 ∧ f pt) _ (by simp) (fun i h => by simp [h]) i
  have ha : ∀ i k, (withPoint pt (bothEntries a b)).armed i k ↔ i = 3 := by
    intro i k
    change (∃ d ∈ bothEntries a b, d.slot = i ∧ d.kind = k) ↔ i = 3
    cases k <;> simp [bothEntries, freshEntry, holdEntry, eq_comm]
  refine ⟨?_, fun i => ?_, fun i => ?_, fun i q => ?_⟩
  · change (bothEntries a b).Pairwise _
    simp [bothEntries, freshEntry, holdEntry]
  · rw [hx, ha]; exact ⟨fun h => ⟨h, hl, hf⟩, fun h => h.1⟩
  · rw [hx, ha]; exact ⟨fun h => ⟨h, ho⟩, fun h => h.1⟩
  · exact withPoint_forall (P := fun _ x => q ∈ x → q.state = .retiring → q.updateOpen = false) _
      (fun h hs => by cases h; rw [hl] at hs; cases hs) (fun _ _ h => by cases h) i

theorem demo_deadlines : DeadlinesExact demo :=
  opened_deadlines false false (pt := { opened with refs := 1 }) rfl (by decide) rfl

theorem demo_timer : TimerSound demo := by
  unfold TimerSound; decide +kernel

theorem demo_queues : QueuesSound demo := by
  unfold QueuesSound QueueSound; decide +kernel

theorem demo_standing : StandingSound demo := by
  unfold StandingSound StandingRec.sound; decide +kernel

/-- LinkSound of a state in which no engine is receiving or sending, outside RESET. -/
theorem linkSound_quiet {s : State}
    (h : ∀ p, ((s.engine p).link = .inFlight ↔ (s.engine p).request.isSome) ∧ ((s.engine p).answer.isNone) ∧
      (s.engine p).link ≠ .receiving ∧ (s.engine p).link ≠ .sending ∧
      (s.mute p = true → (s.engine p).period = .high ∨ (s.engine p).period = .blank) ∧
      (∀ r ∈ (s.engine p).request, r.request.command ≠ .resend) ∧ (∀ r ∈ (s.engine p).hold, r.body.length ≤ 34) ∧
      (s.engine p).restoreCount ≤ Config.restoreRun)
    (hr : ∀ p, (s.engine p).request.isSome → s.supply.state = .running ∧ (s.record p).standing ≠ .severed)
    (hs : ∀ p, s.standing.request = some (.sever p) → (s.record p).severPending = true ∧ (s.engine p).request = none)
    (hw : s.supply.state ≠ .reset) : LinkSound s := by
  refine ⟨fun p => ?_, hr, hs, fun hc => absurd hc hw⟩
  obtain ⟨h1, h2, h3, h4, h5, h6, h7, h8⟩ := h p
  exact ⟨h1, ⟨fun hc => absurd hc h4, fun hc => by cases ha : (s.engine p).answer <;> simp_all⟩,
    fun hc => hc.elim (fun x => absurd x h3) (fun x => absurd x h4), h5, h6, h7, h8⟩

theorem demo_link : LinkSound demo :=
  linkSound_quiet (by decide +kernel) (by decide +kernel) (by decide +kernel) (by decide +kernel)

theorem demo_orphans : OrphansExact demo := by
  intro i pt
  refine demo_forall (P := fun _ x => pt ∈ x → (pt.orphaned = true ↔ pt.state ≠ .retiring ∧
      ((demo.record pt.owner).standing = .severed ∨ (demo.record pt.owner).standing = .restoring)) ∧
    (pt.orphaned = true → pt.updateOpen = false ∧ pt.refreshPending = false)) ?_ (fun _ _ h => by cases h) i
  intro h
  cases h
  decide +kernel

theorem demo_steps : ∃ t, step demo = .next t := exists_next (by decide +kernel)

/-! ## One step of each command -/

/-- The answer in port `p`'s hold after a command. -/
def answer (c : Instr) (s : State) (p : Port) : Option (Status × List Byte) :=
  ((after c s).engine p).hold.map fun h => (h.status, h.body)

/-- `s` with port `p`'s score and standing. -/
def scored (s : State) (p : Port) (n : Nat) (st : Standing) : State :=
  s.setRecord p { score := n, standing := st, severPending := false, reportPending := false }

/-- Port `p` sever-pending, its sever request presented. -/
def doomed (s : State) (p : Port) : State :=
  (s.setRecord p { score := 255, standing := .restricted, severPending := true, reportPending := false }).setStandingRequest (some (.sever p))

/-- Port `p` SEVERED. -/
def cutOff (s : State) (p : Port) : State := scored s p 255 .severed

/-- Port `p` RESTORING after 32 NOP frames, its completion presented. -/
def restored (s : State) (p : Port) : State :=
  ((scored s p 255 .restoring).setEngine p { s.engine p with restoreCount := 32 }).setStandingRequest (some (.restored p))

/-- Port `p` receiving a frame. -/
def hearing (s : State) (p : Port) : State := s.setEngine p { s.engine p with link := .receiving, period := .active 0x08 0x00 }

/-- `s` in another supply state. -/
def inSupply (s : State) (x : SupplyState) : State := { s with supply := { s.supply with state := x } }

theorem test_nop : answer (.nop 1) (asking (scored running 1 96 .warned) 1 .nop) 1 = some (.ok, []) ∧
    ((after (.nop 1) (asking (scored running 1 96 .warned) 1 .nop)).record 1).score = 95 := by decide +kernel
theorem test_status : answer (.status 1) (asking running 1 .status) 1 =
    some (.ok, [0x00, 0x00, 0x00, 0x00, 0x00, 0x01, 0x00, 0x04, 0x00, 0x00, 0x00, 0x02]) := by decide +kernel
theorem test_attend : (after (.attend 2 true) (asking (running.setQueue 2 [.gap]) 2 (.attend true))).attentionLine 2 = true := by
  decide +kernel
theorem test_resend_of_another_tag :
    ((after (.resend 1 (encodeFrame 9 (.resend 5))) (hearing (after (.nop 1) (asking running 1 .nop)) 1)).engine 1).answer =
      some { tag := 9, status := .noHeld, body := [0x01, 0x31, 0x01], atCheck := true } := by decide +kernel
theorem test_create_first_point :
    answer (.create 1 0x001000 20 0b0100 50) (asking running 1 (.create 0x001000 20 0b0100 50)) 1 = some (.ok, [0x00]) ∧
    (after (.create 1 0x001000 20 0b0100 50) (asking running 1 (.create 0x001000 20 0b0100 50))).dir.freeGranules = 1020 := by
  decide +kernel
theorem test_create_of_a_used_key :
    answer (.create 3 0x001000 20 0 0) (asking (withPoint live [freshEntry]) 3 (.create 0x001000 20 0 0)) 3 = some (.keyInUse, []) := by
  decide +kernel
theorem test_find_by_key : answer (.find 2 (.key 0x001000)) (asking (withPoint live [freshEntry]) 2 (.find (.key 0x001000))) 2 =
    some (.ok, [3, 0x00, 0x10, 0x00, 0x02, 0x01, 4, 0x04, 0x00, 50, 0x80, 0, 0xFF, 0xFF]) := by decide +kernel
theorem test_find_by_a_non_reader : answer (.find 3 (.slot 3)) (asking (withPoint live [freshEntry]) 3 (.find (.slot 3))) 3 =
    some (.ok, [3, 0x00, 0x10, 0x00, 0x02, 0x01, 4, 0x04, 0x00, 50, 0x00, 0, 0x00, 0x00]) := by decide +kernel
theorem test_read : answer (.read 2 3 1 3) (asking (withPoint opened (bothEntries false false)) 2 (.read 3 1 3)) 2 =
    some (.ok, [0xFF, 0xFF, 0x02, 2, 3, 4]) := by decide +kernel
theorem test_read_past_the_width : answer (.read 2 3 2 3) (asking (withPoint live []) 2 (.read 3 2 3)) 2 = some (.range, []) := by
  decide +kernel
theorem test_scan : answer (.scan 2 0 0 none 1) (asking (withPoint live []) 2 (.scan 0 0 none 1)) 2 =
    some (.ok, [1, 0, 0x00, 0x10, 0x00, 3, 0x82, 0xFF, 0xFF]) := by decide +kernel
theorem test_open : answer (.openUpdate 1 3) (asking (withPoint live [freshEntry]) 1 (.openUpdate 3)) 1 = some (.ok, [0xFF, 0xFF]) ∧
    (after (.openUpdate 1 3) (asking (withPoint live [freshEntry]) 1 (.openUpdate 3))).timer.deadlines = [freshEntry, holdEntry] := by
  decide +kernel
theorem test_write : ((after (.write 1 3 1 [7, 8]) (asking (withPoint opened (bothEntries false false)) 1 (.write 3 1 [7, 8]))).point 3).map
    (·.pendingBuf) = some [1, 7, 8, 9] := by decide +kernel
theorem test_write_not_open_before_range :
    answer (.write 1 3 4 [7]) (asking (withPoint live []) 1 (.write 3 4 [7])) 1 = some (.notOpen, []) := by decide +kernel
theorem test_commit_version_wraps : answer (.commit 1 3) demo 1 = some (.ok, [0x00, 0x01]) := by decide +kernel
theorem test_commit_coalesces : (after (.commit 1 3) demo).queue 2 = [.changed 3 0x001000 1 2 true] := by decide +kernel
theorem test_discard : (after (.discard 1 3) (asking (withPoint opened (bothEntries false false)) 1 (.discard 3))).timer.deadlines =
    [freshEntry] := by decide +kernel
theorem test_discard_of_an_orphaned_point :
    answer (.discard 1 3) (asking (scored (withPoint { live with orphaned := true } []) 1 255 .restoring) 1 (.discard 3)) 1 =
      some (.notOpen, []) := by decide +kernel
theorem test_put : (after (.put 1 3 1 [7]) (asking (withPoint live []) 1 (.put 3 1 [7]))).point 3 =
    some { live with committed := [1, 7, 3, 4], pendingBuf := [1, 2, 3, 4], version := 1 } := by decide +kernel
theorem test_refresh : answer (.refresh 2 3) (asking (withPoint live []) 2 (.refresh 3)) 2 = some (.ok, [0x01]) ∧
    (after (.refresh 2 3) (asking (withPoint live []) 2 (.refresh 3))).queue 1 = [.refresh 3 0x001000 false] := by decide +kernel
theorem test_retire_unwatched : answer (.retire 1 3) (asking (withPoint live [freshEntry]) 1 (.retire 3)) 1 = some (.ok, [0x00, 0x00]) ∧
    (after (.retire 1 3) (asking (withPoint live [freshEntry]) 1 (.retire 3))).dir.freeGranules = 1024 := by decide +kernel
theorem test_retire_watched : answer (.retire 0 3) (asking (watched (withPoint live [])) 0 (.retire 3)) 0 = some (.ok, [0x04, 0x01]) := by
  decide +kernel
theorem test_watch_filter_8 : answer (.watch 1 8 0 0 0) (asking running 1 (.watch 8 0 0 0)) 1 = some (.range, []) := by decide +kernel
theorem test_unwatch : ((after (.unwatch 2 2) (asking (watched running) 2 (.unwatch 2))).filters 2).get 2 = Filter.unused := by
  decide +kernel
theorem test_take_frees : answer (.take 2 4)
    (asking ((withPoint { live with state := .retiring, committed := [], pendingBuf := [], refs := 1 } []).setQueue 2
      [.retired 3 0x001000 65535 2 false]) 2 (.take 4)) 2 = some (.ok, [1, 0, 0x03, 0x02, 3, 0x00, 0x10, 0x00, 0xFF, 0xFF]) := by
  decide +kernel
theorem test_restore : ((after (.restore 0 1) (asking (cutOff running 1) 0 (.restore 1))).record 1).standing = .restoring ∧
    (after (.restore 0 1) (asking (cutOff running 1) 0 (.restore 1))).queue 0 = [.standing 1 .restoring false] := by decide +kernel
theorem test_flush : answer (.flush 0 2)
    (asking ((withPoint { live with state := .retiring, committed := [], pendingBuf := [], refs := 1 } []).setQueue 2
      [.gap, .retired 3 0x001000 65535 2 false]) 0 (.flush 2)) 0 = some (.ok, [2, 1]) := by decide +kernel
theorem test_reassign : answer (.reassign 0 3 2) (asking (withPoint opened (bothEntries false false)) 0 (.reassign 3 2)) 0 =
      some (.ok, [0x01]) ∧
    (after (.reassign 0 3 2) (asking (withPoint opened (bothEntries false false)) 0 (.reassign 3 2))).queue 1 =
      [.expired 3 0x001000 false] := by decide +kernel
theorem test_timing_range : answer (.timing 0 19 4096) (asking running 0 (.timing 19 4096)) 0 = some (.range, []) := by decide +kernel
theorem test_timing_not_supervisor : answer (.timing 1 19 0) (asking running 1 (.timing 19 0)) 1 = some (.notSupervisor, []) := by
  decide +kernel
theorem test_tick_wraps : (after .tick (running.setTimer { Timer.reset with tick := 0xFFFFFFFF })).timer.tick = 0 := by decide +kernel
theorem test_expiry_request : (after .expiryRequest (withPoint opened (bothEntries true true))).timer.request = some (3, .fresh) := by
  decide +kernel

/-- The expiry of slot 3's entry of kind `k` presented, the entries due. -/
def expiring (k : DeadlineKind) : State :=
  (withPoint opened (bothEntries true true)).setTimer
    { (withPoint opened (bothEntries true true)).timer with request := some (3, k) }

theorem test_freshExpiry : (after (.freshExpiry 3) (watched (expiring .fresh))).queue 2 = [.stale 3 0x001000 65535 2 false] := by
  decide +kernel
theorem test_holdExpiry : (after (.holdExpiry 3) (expiring .hold)).queue 1 = [.expired 3 0x001000 false] := by decide +kernel
theorem test_sever : (after (.sever 1) (doomed demo 1)).lastGrant = .standing := by decide +kernel
theorem test_sever_orphans : ((after (.sever 1) (doomed (withPoint opened (bothEntries false false)) 1)).point 3).map (·.orphaned) = some true ∧
    (after (.sever 1) (doomed (withPoint opened (bothEntries false false)) 1)).queue 0 = [.standing 1 .severed false] := by
  decide +kernel
theorem test_restorationComplete :
    ((after (.restorationComplete 1) (restored (withPoint { live with orphaned := true } []) 1)).record 1).score = 0 ∧
    ((after (.restorationComplete 1) (restored (withPoint { live with orphaned := true } []) 1)).point 3).map (·.orphaned) = some false := by
  decide +kernel
theorem test_standingChange :
    (after (.standingChange 1) ((scored running 1 96 .warned).setStandingRequest (some (.change 1)))).queue 0 =
      [.standing 1 .warned false] := by decide +kernel
theorem test_selectPeriodStart :
    [1, 2, 3].map (((after (.selectPeriodStart 1) (running.setQueue 1 [.gap])).engine 1).sdoByte 0) = [some 0x09, some 0x01, some 0xFF] := by
  decide +kernel
theorem test_selectPeriodStart_mute :
    [1, 2, 3].map (((after (.selectPeriodStart 1) (doomed running 1)).engine 1).sdoByte 0) = [some 0xFF, some 0xFF, some 0xFF] := by
  decide +kernel

/-- The transaction of 8.10 with a NOP (n = 0): CHK is byte 4, the response comes during byte 7, and the marker is byte 8. -/
theorem test_marker_after_filler :
    [4, 5, 6, 7, 8, 9, 10, 11, 12, 13].map
        (((after (.nop 1) (after (.requestPresented 1 [0x01, 0x07, 0x00, 0x00]) (hearing running 1))).engine 1).sdoByte 3) =
      [some 0xFF, some 0xFF, some 0xFF, some 0xFF, some 0x5C, some 0x07, some 0x00, some 0x00, some 0x16, some 0xFF] := by decide +kernel

/-- An answer of the engine's own begins at the byte after CHK, whatever the host clocks. -/
theorem test_marker_after_check :
    [4, 5, 6, 7].map (((after (.badFrame 1 [0x05, 7, 0, 0]) (hearing running 1)).engine 1).sdoByte 3) =
      [some 0xFF, some 0x5C, some 7, some 0x02] := by decide +kernel
theorem test_selectPeriodEnd : ((after (.selectPeriodEnd 1) (asking running 1 .nop)).engine 1).link = .inFlight := by decide +kernel
theorem test_badFrame_scores_8 : ((after (.badFrame 1 [0x05, 7, 0, 0]) (hearing running 1)).record 1).score = 8 := by decide +kernel
theorem test_checkFail_restricts : (after (.checkFail 1 [0x01, 7, 0, 1]) (hearing (scored running 1 159 .warned) 1)).record 1 =
    { score := 167, standing := .restricted, severPending := false, reportPending := true } := by decide +kernel
theorem test_held : ((after (.held 1 [0x01, 7, 0, 0]) (hearing (inSupply running .frozen) 1)).engine 1).answer =
    some { tag := 7, status := .held, body := [], atCheck := true } := by decide +kernel
theorem test_powerOnReset : (after .powerOnReset demo).dir.freeGranules = 1024 := by decide +kernel
theorem test_pinReset : (after .pinReset demo).supply.state = .reset := by decide +kernel
theorem test_resetRelease : (after (.resetRelease 0b10 true) State.reset).supply.sup = 2 ∧
    (after (.resetRelease 0b10 true) State.reset).supply.swm = .reset := by decide +kernel
theorem test_reset_follows_straps : (after .pinReset { demo with supply := { demo.supply with supStraps := 0b01 } }).supply.sup = 1 := by
  decide +kernel
theorem test_settleEnd : (after .settleEnd (inSupply running .settling)).supply.state = .running := by decide +kernel
theorem test_droopFreeze_withdraws : ((after .droopFreeze demo).engine 1).answer = some { tag := 0x31, status := .held, body := [], atCheck := false } ∧
    (after .droopFreeze demo).queue 2 = demo.queue 2 := by decide +kernel
theorem test_supplyReset_needs_swm : (after .supplyReset demo).supply.state = .running := by decide +kernel
theorem test_droopRecovery : (after .droopRecovery (inSupply running .frozen)).supply.state = .settling := by decide +kernel
theorem test_requestPresented : ((after (.requestPresented 1 [0x01, 7, 0, 0]) (hearing running 1)).engine 1).request =
    some { tag := 7, request := .nop } := by decide +kernel
theorem test_sixteenth_entry_is_gap :
    offerQueue ((List.finRange 256).take 15 |>.map fun i => .refresh i 0 false) (.refresh 100 0 false) =
      (((List.finRange 256).take 15 |>.map fun i => .refresh i 0 false) ++ [.gap], false) := by decide +kernel

/-! ## Witnesses: a state and operands that meet the hypotheses of each statement -/

theorem witness_StepRunsFrontCommand : demo.pending = .commit 1 3 :: [] := rfl

/-- Each clause, at the boundary of its count. -/
theorem witness_ClockPeriod :
    running.pending = [] ∧ running.supply.state = .running ∧ running.timer.subTick < running.timer.tickdiv.toNat ∧
    (running.setTimer { Timer.reset with subTick := 9 }).pending = [] ∧
    (running.setTimer { Timer.reset with subTick := 9 }).timer.subTick =
      (running.setTimer { Timer.reset with subTick := 9 }).timer.tickdiv.toNat ∧
    (inSupply running .settling).supply.state = .settling ∧ (inSupply running .settling).supply.settleTime < 1900 ∧
    ((inSupply running .settling).setSupply { (inSupply running .settling).supply with settleTime := 1900 }).supply.settleTime = 1900 ∧
    State.reset.pending = [] ∧ State.reset.supply.state = .reset ∧ (inSupply running .frozen).supply.state = .frozen := by
  decide +kernel

/-- P1 and P3 both wait; P1 is granted, and P3 is another that waits. The standing unit with one request of each kind held, and with none. -/
theorem witness_ArbiterAndStandingRotation :
    (asking (asking running 1 .nop) 3 .status).nextGrant = some (.port 1) ∧
    (asking (asking running 1 .nop) 3 .status).presented (.port 3) = true ∧ Requester.port 3 ≠ .port 1 ∧
    (doomed running 1).heldRequest = some (.sever 1) ∧ (restored running 1).heldRequest = some (.restored 1) ∧
    ((running.setRecord 1 { running.record 1 with reportPending := true }).setLastPort 1).heldRequest = some (.change 1) ∧
    running.heldRequest = none := by decide +kernel

theorem witness_RequestsStayPresented :
    LinkSound demo ∧ (∃ t, exec .tick demo = .next t) ∧ Instr.tick ≠ .powerOnReset ∧ Instr.tick ≠ .pinReset ∧ Instr.tick ≠ .supplyReset ∧
    (demo.engine 1).request = some { tag := 0x31, request := .commit 3 } ∧
    (expiring .hold).timer.request = some (3, .hold) ∧ (doomed running 1).standing.request = some (.sever 1) :=
  ⟨demo_link, exists_next (by decide +kernel), by decide, by decide, by decide, by decide +kernel, by decide +kernel, by decide +kernel⟩

theorem witness_OutOfTurnChangesNothing :
    (Request.nop.taken 2 = some (.nop 2) ∧ ∀ tag, ¬Taken demo 2 tag .nop) ∧
    ¬(demo.timer.request = some (3, .fresh) ∧ demo.nextGrant = some .timer) ∧
    ¬(demo.timer.request = some (3, .hold) ∧ demo.nextGrant = some .timer) ∧
    ¬(demo.standing.request = some (.sever 1) ∧ demo.nextGrant = some .standing) ∧
    ¬(demo.standing.request = some (.restored 1) ∧ demo.nextGrant = some .standing) ∧
    ¬(demo.standing.request = some (.change 1) ∧ demo.nextGrant = some .standing) ∧
    State.reset.supply.state ≠ .running ∧ (expiring .fresh).timer.request.isSome ∧
    ∀ d, demo.timer.deadlines.head? = some d → d.due = false := by
  have h : (demo.engine 2).request = none := by decide +kernel
  have hd : demo.timer.deadlines.head? = some freshEntry := by decide +kernel
  refine ⟨⟨rfl, fun tag ht => ?_⟩, by decide +kernel, by decide +kernel, by decide +kernel, by decide +kernel, by decide +kernel,
    by decide +kernel, by decide +kernel, fun d h => ?_⟩
  · rw [Taken, h] at ht; cases ht.1
  · rw [hd] at h; cases h; rfl

/-- The events of the engines and of the supply watch, out of turn: a port that is not receiving, a well-formed NOP where another verdict is
reported, a RESEND that is presented, SEL low and high, and supply states and SWM levels that the supply events do not start from. -/
theorem witness_OutOfTurnEvents :
    running.receiving 1 = false ∧ (hearing running 1).receiving 1 = true ∧ (∀ tag, checkFrame [0x01, 7, 0, 0] ≠ .badFrame tag) ∧
    (∀ tag, checkFrame [0x01, 7, 0, 0] ≠ .checkFail tag) ∧ (∀ tag named, checkFrame [0x01, 7, 0, 0] ≠ .good tag (.resend named)) ∧
    (∀ tag q, checkFrame [0x01, 7, 0, 1] ≠ .good tag q) ∧
    (∀ tag q, checkFrame (encodeFrame 9 (.resend 5)) = .good tag q → ∃ named, q = .resend named) ∧
    (demo.engine 1).period ≠ .high ∧ (running.engine 1).period = .high ∧ demo.supply.state ≠ .reset ∧ demo.supply.state ≠ .settling ∧
    demo.supply.state ≠ .frozen ∧ demo.supply.swm = .freeze ∧ (inSupply demo .frozen).supply.state = .frozen := by
  have h1 : checkFrame [0x01, 7, 0, 0] = .good 7 .nop := by decide +kernel
  have h2 : checkFrame [0x01, 7, 0, 1] = .checkFail 7 := by decide +kernel
  have h3 : checkFrame (encodeFrame 9 (.resend 5)) = .good 9 (.resend 5) := by decide +kernel
  refine ⟨by decide +kernel, by decide +kernel, ?_, ?_, ?_, ?_, ?_, by decide +kernel⟩
  · intro tag h; rw [h1] at h; cases h
  · intro tag h; rw [h1] at h; cases h
  · intro tag named h; rw [h1] at h; cases h
  · intro tag q h; rw [h2] at h; cases h
  · intro tag q h; rw [h3] at h; cases h; exact ⟨5, rfl⟩

/-- The shortest and the longest body WRITE may carry, and another check byte. -/
theorem witness_FramesRoundTrip :
    (Request.write 255 0xFF [0]).wellFormed = true ∧ (Request.write 0 0 (List.replicate 16 0xFF)).wellFormed = true ∧
    (0x01 : Byte) ≠ crc8 (coveredBytes 0x07 .nop) := by decide +kernel

/-- A code that is no command's, and LEN 25. -/
theorem witness_OtherFramesAreBad :
    ([] : List Byte).length = (0 : Byte).toNat ∧ (∀ r : Request, r.wellFormed = true → (0x05 : Byte) :: 0x07 :: 0 :: [] ≠ coveredBytes 0x07 r) ∧
    (List.replicate 25 (0 : Byte)).length = (25 : Byte).toNat ∧
    ∀ r : Request, r.wellFormed = true → (0x05 : Byte) :: 0x07 :: 25 :: List.replicate 25 0 ≠ coveredBytes 0x07 r := by
  have h : ∀ c : Command, (0x05 : Byte) ≠ commandCode c := by intro c; cases c <;> decide
  refine ⟨rfl, fun r _ hr => ?_, by decide, fun r _ hr => ?_⟩ <;>
  · injection hr with h1 _; exact h _ h1

theorem running_link : LinkSound running :=
  linkSound_quiet (by decide +kernel) (by decide +kernel) (by decide +kernel) (by decide +kernel)

/-- A period whose answer begins at its third byte, the earliest that a marker may stand in by the statement. -/
theorem witness_SelectPeriods_bytes :
    ∃ e : Engine, e.period = .active 0x08 0x00 ∧ e.answer = some { tag := 7, status := .ok, body := [], atCheck := false } ∧
      3 = e.received + 1 + (if false then 0 else 2) :=
  ⟨{ Engine.reset with link := .sending, period := .active 0x08 0x00
                       answer := some { tag := 7, status := .ok, body := [], atCheck := false } }, rfl, rfl, rfl⟩

/-- SEL high with a request in flight, SEL high with none, and SEL low. -/
theorem witness_SelectPeriods :
    (LinkSound (after (.selectPeriodEnd 1) demo) ∧ ((after (.selectPeriodEnd 1) demo).engine 1).period = .high ∧
      ((after (.selectPeriodEnd 1) demo).engine 1).request.isSome) ∧
    (LinkSound running ∧ QueuesSound running ∧ (running.engine 1).period = .high ∧ running.supply.state ≠ .reset ∧
      running.mute 1 = false ∧ (running.engine 1).request = none) ∧
    (LinkSound demo ∧ (demo.engine 1).period ≠ .high) := by
  refine ⟨⟨linkSound_quiet (by decide +kernel) (by decide +kernel) (by decide +kernel) (by decide +kernel), by decide +kernel,
    by decide +kernel⟩, ⟨running_link, ?_, by decide +kernel, by decide +kernel, by decide +kernel, by decide +kernel⟩, demo_link,
    by decide +kernel⟩
  unfold QueuesSound QueueSound; decide +kernel

theorem witness_FramesAnsweredByTheEngine :
    (hearing running 1).receiving 1 = true ∧ frameWellFormed [0x05, 0x07, 0x00, 0x00] = true ∧
    checkFrame [0x05, 0x07, 0x00, 0x00] = .badFrame 0x07 ∧ frameWellFormed [0x01, 0x07, 0x00, 0x01] = true ∧
    checkFrame [0x01, 0x07, 0x00, 0x01] = .checkFail 0x07 ∧ (hearing (inSupply running .frozen) 1).receiving 1 = true ∧
    Request.nop.wellFormed = true ∧ (hearing (inSupply running .frozen) 1).supply.state ≠ .running ∧
    StandingRec.reset.sound false := by
  refine ⟨by decide +kernel, by decide, by decide +kernel, by decide, by decide +kernel, by decide +kernel, by decide, by decide +kernel, ?_⟩
  unfold StandingRec.sound; decide

/-- The hold with the named tag, with another, and empty. -/
theorem witness_ResendAnswers :
    (hearing running 1).receiving 1 = true ∧ (hearing running 1).supply.state = .running ∧ ((hearing running 1).engine 1).hold = none ∧
    (hearing (after (.commit 1 3) demo) 1).receiving 1 = true ∧
    ((hearing (after (.commit 1 3) demo) 1).engine 1).hold = some { tag := 0x31, command := .commit, status := .ok, body := [0x00, 0x01] } ∧
    (0x31 : Byte) ≠ 0x32 := by decide +kernel

theorem witness_RequestsPresented :
    Request.status.wellFormed = true ∧ (∀ named, Request.status ≠ .resend named) ∧ (hearing running 1).receiving 1 = true ∧
    (hearing running 1).supply.state = .running := by
  refine ⟨rfl, fun named h => ?_, by decide +kernel, by decide +kernel⟩
  cases h

/-- `live` with another request of a port. -/
def asks (p : Port) (r : Request) : State := asking (withPoint live [freshEntry]) p r

/-- `opened`, its deadlines armed, one update counted for P1, with a request of a port. -/
def asksOpened (p : Port) (r : Request) : State :=
  asking ((withPoint opened (bothEntries false false)).setOpenUpdates 1 1) p r

theorem witness_PublishingRefusals_orphaned :
    IndexExact (asking (scored (withPoint { live with orphaned := true } []) 1 255 .restoring) 1 (.discard 3)) ∧
    Taken (asking (scored (withPoint { live with orphaned := true } []) 1 255 .restoring) 1 (.discard 3)) 1 0x31 (.discard 3) ∧
    (Request.discard 3).taken 1 = some (.discard 1 3) ∧
    firstRefusal ((asking (scored (withPoint { live with orphaned := true } []) 1 255 .restoring) 1 (.discard 3)).refusals 1 (.discard 3)) =
      .notOpen := by
  exact ⟨withPoint_index _ [], by unfold Taken; decide +kernel, rfl, by decide +kernel⟩

theorem witness_PublishingRefusals :
    (IndexExact (asks 2 (.openUpdate 3)) ∧ Taken (asks 2 (.openUpdate 3)) 2 0x31 (.openUpdate 3) ∧
      (Request.openUpdate 3).taken 2 = some (.openUpdate 2 3) ∧
      firstRefusal ((asks 2 (.openUpdate 3)).refusals 2 (.openUpdate 3)) = .notOwner) ∧
    (IndexExact (asks 1 (.create 0x001000 4 0 0)) ∧ Taken (asks 1 (.create 0x001000 4 0 0)) 1 0x31 (.create 0x001000 4 0 0) ∧
      firstRefusal ((asks 1 (.create 0x001000 4 0 0)).refusals 1 (.create 0x001000 4 0 0)) = .keyInUse) := by
  unfold Taken
  exact ⟨⟨withPoint_index live [freshEntry], by decide +kernel, rfl, by decide +kernel⟩,
    withPoint_index live [freshEntry], by decide +kernel, by decide +kernel⟩

theorem witness_OtherRefusals :
    (IndexExact (asks 3 (.read 3 0 1)) ∧ Taken (asks 3 (.read 3 0 1)) 3 0x31 (.read 3 0 1) ∧
      (Request.read 3 0 1).taken 3 = some (.read 3 3 0 1) ∧ firstRefusal ((asks 3 (.read 3 0 1)).refusals 3 (.read 3 0 1)) = .guarded) ∧
    (IndexExact (asks 1 (.flush 4)) ∧ Taken (asks 1 (.flush 4)) 1 0x31 (.flush 4) ∧
      firstRefusal ((asks 1 (.flush 4)).refusals 1 (.flush 4)) = .notSupervisor) := by
  unfold Taken
  exact ⟨⟨withPoint_index live [freshEntry], by decide +kernel, rfl, by decide +kernel⟩,
    withPoint_index live [freshEntry], by decide +kernel, by decide +kernel⟩

/-- P1, in good standing and RESTORING. -/
theorem witness_NopTaken :
    Taken (asks 1 .nop) 1 0x31 .nop ∧ ((asks 1 .nop).record 1).sound (1 == (asks 1 .nop).supervisor) ∧ (asks 1 .nop).mute 1 = false ∧
    ((asks 1 .nop).record 1).standing ≠ .restoring ∧
    Taken (asking (scored running 1 255 .restoring) 1 .nop) 1 0x31 .nop ∧
    ((asking (scored running 1 255 .restoring) 1 .nop).record 1).standing = .restoring ∧
    ((asking (scored running 1 255 .restoring) 1 .nop).engine 1).restoreCount < 32 := by
  unfold Taken StandingRec.sound; decide +kernel

theorem witness_StatusTaken : Taken (asks 1 .status) 1 0x31 .status := by
  unfold Taken; decide +kernel

theorem witness_AttendTaken : Taken (asks 1 (.attend true)) 1 0x31 (.attend true) := by
  unfold Taken; decide +kernel

theorem witness_FindTaken :
    IndexExact (asks 3 (.find (.key 0x001000))) ∧ Taken (asks 3 (.find (.key 0x001000))) 3 0x31 (.find (.key 0x001000)) ∧
    (asks 3 (.find (.key 0x001000))).point 3 = some live ∧ FindBy.key 0x001000 = .key live.key := by
  unfold Taken
  exact ⟨withPoint_index live [freshEntry], by decide +kernel, by decide +kernel, rfl⟩

/-- The last byte of the width. -/
theorem witness_ReadTaken :
    RecordsSound (asks 2 (.read 3 3 1)) ∧ Passes (asks 2 (.read 3 3 1)) 2 0x31 (.read 3 3 1) ∧ (asks 2 (.read 3 3 1)).point 3 = some live := by
  unfold Passes Taken
  exact ⟨withPoint_records [freshEntry] live_sound, by decide +kernel, by decide +kernel⟩

/-- The largest count, "after" just below the one key. -/
theorem witness_ScanTaken :
    IndexExact (asks 2 (.scan 0 0 (some 0x000FFF) 4)) ∧ Passes (asks 2 (.scan 0 0 (some 0x000FFF) 4)) 2 0x31 (.scan 0 0 (some 0x000FFF) 4) ∧
    [((0x001000 : Key), (3 : Slot))].Sublist (asks 2 (.scan 0 0 (some 0x000FFF) 4)).dir.index ∧
    ∀ e ∈ (asks 2 (.scan 0 0 (some 0x000FFF) 4)).dir.index, e ∈ [((0x001000 : Key), (3 : Slot))] ↔
      (∀ b, b < 24 → (0 : Key).getLsbD b = true → e.1.getLsbD b = (0 : Key).getLsbD b) ∧ (∀ a, some (0x000FFF : Key) = some a → a < e.1) := by
  unfold Passes Taken
  refine ⟨withPoint_index live [freshEntry], by decide +kernel, List.Sublist.refl _, fun e he => ?_⟩
  change e ∈ [((0x001000 : Key), (3 : Slot))] at he
  refine ⟨fun _ => ⟨fun b _ hb => by simp at hb, fun a ha => ?_⟩, fun _ => he⟩
  rw [List.mem_singleton] at he
  cases ha; subst he; decide

/-- The widest point, the store just large enough. -/
theorem witness_CreateTaken :
    IndexExact ((asks 3 (.create 0 64 0 0)).setFreeGranules 8) ∧
    Passes ((asks 3 (.create 0 64 0 0)).setFreeGranules 8) 3 0x31 (.create 0 64 0 0) := by
  unfold Passes Taken
  exact ⟨withPoint_index live [freshEntry], by decide +kernel⟩

/-- The owner's fourth update. -/
theorem witness_OpenTaken :
    Passes ((asks 1 (.openUpdate 3)).setOpenUpdates 1 3) 1 0x31 (.openUpdate 3) ∧
    ((asks 1 (.openUpdate 3)).setOpenUpdates 1 3).point 3 = some live := by
  unfold Passes Taken; decide +kernel

/-- Up to the last byte of the width. -/
theorem witness_WriteTaken :
    RecordsSound (asksOpened 1 (.write 3 2 [7, 8])) ∧ Passes (asksOpened 1 (.write 3 2 [7, 8])) 1 0x31 (.write 3 2 [7, 8]) ∧
    (asksOpened 1 (.write 3 2 [7, 8])).point 3 = some opened := by
  unfold Passes Taken
  exact ⟨withPoint_records (bothEntries false false) opened_sound, by decide +kernel, by decide +kernel⟩

theorem witness_CommitTaken : Passes demo 1 0x31 (.commit 3) ∧ demo.point 3 = some { opened with refs := 1 } := by
  unfold Passes Taken; decide +kernel

theorem witness_DiscardTaken :
    Passes (asksOpened 1 (.discard 3)) 1 0x31 (.discard 3) ∧ (asksOpened 1 (.discard 3)).point 3 = some opened := by
  unfold Passes Taken; decide +kernel

theorem witness_PutTaken :
    RecordsSound (asks 1 (.put 3 0 [5, 6, 7, 8])) ∧ Passes (asks 1 (.put 3 0 [5, 6, 7, 8])) 1 0x31 (.put 3 0 [5, 6, 7, 8]) ∧
    (asks 1 (.put 3 0 [5, 6, 7, 8])).point 3 = some live := by
  unfold Passes Taken
  exact ⟨withPoint_records [freshEntry] live_sound, by decide +kernel, by decide +kernel⟩

/-- The flag clear, and the flag set. -/
theorem witness_RefreshTaken :
    (Passes (asks 2 (.refresh 3)) 2 0x31 (.refresh 3) ∧ (asks 2 (.refresh 3)).point 3 = some live ∧ live.refreshPending = false) ∧
    (Passes (asking (withPoint { live with refreshPending := true } []) 2 (.refresh 3)) 2 0x31 (.refresh 3) ∧
      (asking (withPoint { live with refreshPending := true } []) 2 (.refresh 3)).point 3 = some { live with refreshPending := true }) := by
  unfold Passes Taken; decide +kernel

theorem witness_FiltersTaken :
    Passes (asks 1 (.watch 7 0 0 0b1111)) 1 0x31 (.watch 7 0 0 0b1111) ∧ Passes (asks 1 (.unwatch 0)) 1 0x31 (.unwatch 0) := by
  unfold Passes Taken; decide +kernel

/-- More asked for than the queue holds. -/
theorem witness_TakeTaken : Passes (asking (demo.setQueue 2 [.gap]) 2 (.take 4) |>.setGrant (.port 1)) 2 0x31 (.take 4) := by
  unfold Passes Taken; decide +kernel

/-- The entry taken names slot 3. -/
theorem witness_TakeTaken_named :
    Passes (asking demo 2 (.take 1) |>.setGrant (.port 1)) 2 0x31 (.take 1) ∧
    namedIn ((asking demo 2 (.take 1)).queue 2) 3 = 1 := by
  unfold Passes Taken; decide +kernel

theorem witness_EventsRouted :
    (∀ f, (Notice.changed 3 0x001000 1 f false).slot? = some 3) ∧ demo.point 3 = some { opened with refs := 1 } ∧
    demo.routeFilter { opened with refs := 1 } .changed 2 = some 2 ∧ demo.routeFilter { opened with refs := 1 } .changed 3 = none :=
  ⟨fun _ => rfl, by decide +kernel, by decide +kernel, by decide +kernel⟩

/-- `n` entries, each of another slot. -/
def filled (n : Nat) : List Notice := (allSlots.take n).map fun i => .refresh i 0 false

/-- An entry to merge into, fourteen entries, fifteen not ending in a GAP, fifteen ending in one, and sixteen. -/
theorem witness_NoticesOffered :
    (QueueSound (filled 15) ∧ filled 15 = filled 14 ++ .refresh 14 0 false :: [] ∧ Notice.refresh 14 0 false ≠ .gap) ∧
    (∀ q ∈ [filled 14, filled 15, filled 14 ++ [Notice.gap], filled 15 ++ [Notice.gap]], QueueSound q ∧ ∀ e ∈ q,
      ¬(e.kindNo = (Notice.refresh 100 0 false).kindNo ∧ e.slot? = some 100 ∧ e.port? = none)) ∧
    (filled 14).length = 14 ∧ (filled 15).length = 15 ∧ (filled 15).getLast? ≠ some Notice.gap ∧ (filled 14 ++ [Notice.gap]).length = 15 ∧
    (filled 15 ++ [Notice.gap]).length = 16 ∧ (doomed running 1).mute 1 = true := by
  unfold QueueSound; decide +kernel

/-- An entry that takes the offered version and filter, at both ends of the version's range. -/
theorem witness_NoticesOffered_merges :
    QueueSound [.changed 3 0x001000 65535 2 false] ∧
    Merges (.changed 3 0x001000 65535 2 false) (.changed 3 0x001000 1 5 false) (.changed 3 0x001000 1 5 true) := by
  refine ⟨?_, Merges.changed 3 0x001000 0x001000 65535 1 2 5 false false⟩
  unfold QueueSound; decide +kernel

theorem witness_RetireTaken :
    DeadlinesExact (asksOpened 0 (.retire 3)) ∧ Passes (asksOpened 0 (.retire 3)) 0 0x31 (.retire 3) ∧
    (asksOpened 0 (.retire 3)).point 3 = some opened := by
  unfold Passes Taken
  exact ⟨opened_deadlines false false rfl (by decide) rfl, by decide +kernel, by decide +kernel⟩

/-- P2 watches: one RETIRED notice is appended, so the slot is left RETIRING with count 1. -/
theorem witness_RetireTaken_named :
    Passes (watched (asksOpened 0 (.retire 3))) 0 0x31 (.retire 3) ∧ (watched (asksOpened 0 (.retire 3))).point 3 = some opened ∧
    DeadlinesExact (watched (asksOpened 0 (.retire 3))) ∧
    1 = opened.refs + (watched (asksOpened 0 (.retire 3))).deliveries opened .retired fun f => .retired 3 opened.key opened.version f false := by
  unfold Passes Taken
  exact ⟨by decide +kernel, by decide +kernel, opened_deadlines false false rfl (by decide) rfl, by decide +kernel⟩

theorem witness_ReassignTaken :
    Passes (asksOpened 0 (.reassign 3 3)) 0 0x31 (.reassign 3 (BitVec.ofNat 8 (3 : Port).val)) ∧
    (asksOpened 0 (.reassign 3 3)).point 3 = some opened := by
  unfold Passes Taken; decide +kernel

theorem witness_FlushTaken : Passes (asks 0 (.flush 3)) 0 0x31 (.flush (BitVec.ofNat 8 (3 : Port).val)) := by
  unfold Passes Taken; decide +kernel

/-- P2's queue names slot 3. -/
theorem witness_FlushTaken_named :
    Passes (asking demo 0 (.flush 2) |>.setGrant .standing) 0 0x31 (.flush (BitVec.ofNat 8 (2 : Port).val)) ∧
    namedIn ((asking demo 0 (.flush 2)).queue 2) 3 = 1 := by
  unfold Passes Taken; decide +kernel

/-- HOLDLIM 0 and HOLDLIM 1. -/
theorem witness_TimingTaken_low :
    Taken (asks 0 (.timing 0 0)) 0 0x31 (.timing 0 0) ∧ 0 = (asks 0 (.timing 0 0)).supervisor ∧ (0 : BitVec 16).toNat = 0 ∧
    Taken (asks 0 (.timing 0 1)) 0 0x31 (.timing 0 1) ∧ 0 = (asks 0 (.timing 0 1)).supervisor ∧ 1 ≤ (1 : BitVec 16).toNat := by
  unfold Taken; decide +kernel

/-- Another port's, HOLDLIM 4096, and HOLDLIM 4095. -/
theorem witness_TimingTaken :
    Taken (asks 1 (.timing 0 1)) 1 0x31 (.timing 0 1) ∧ 1 ≠ (asks 1 (.timing 0 1)).supervisor ∧
    Taken (asks 0 (.timing 0 4096)) 0 0x31 (.timing 0 4096) ∧ 0 = (asks 0 (.timing 0 4096)).supervisor ∧ 4095 < (4096 : BitVec 16).toNat ∧
    Taken (asks 0 (.timing 255 4095)) 0 0x31 (.timing 255 4095) ∧ (4095 : BitVec 16).toNat ≤ 4095 := by
  unfold Taken; decide +kernel

theorem witness_TicksAndExpiryRequests :
    demo.supply.state = .running ∧ (withPoint opened (bothEntries true false)).timer.request = none ∧
    (withPoint opened (bothEntries true false)).timer.deadlines = { freshEntry with due := true } :: [holdEntry] := by decide +kernel

/-- The entry due, and no longer due because it was armed anew. -/
theorem witness_FreshExpiryTaken :
    ((expiring .fresh).timer.request = some (3, .fresh) ∧ (expiring .fresh).nextGrant = some .timer ∧ DeadlinesExact (expiring .fresh) ∧
      ∃ d ∈ (expiring .fresh).timer.deadlines, d.slot = 3 ∧ d.kind = .fresh ∧ d.due = true) ∧
    ((expiring .fresh).setDeadlines (bothEntries false true)).timer.request = some (3, .fresh) ∧
    ((expiring .fresh).setDeadlines (bothEntries false true)).nextGrant = some .timer ∧
    ∀ d ∈ ((expiring .fresh).setDeadlines (bothEntries false true)).timer.deadlines, d.slot = 3 → d.kind = .fresh → d.due = false := by
  refine ⟨⟨by decide +kernel, by decide +kernel, opened_deadlines true true rfl (by decide) rfl, by decide +kernel⟩, by decide +kernel,
    by decide +kernel, by decide +kernel⟩

theorem witness_HoldExpiryTaken :
    ((expiring .hold).timer.request = some (3, .hold) ∧ (expiring .hold).nextGrant = some .timer ∧ DeadlinesExact (expiring .hold) ∧
      ∃ d ∈ (expiring .hold).timer.deadlines, d.slot = 3 ∧ d.kind = .hold ∧ d.due = true) ∧
    ((expiring .hold).setDeadlines []).timer.request = some (3, .hold) ∧ ((expiring .hold).setDeadlines []).nextGrant = some .timer ∧
    ∀ d ∈ ((expiring .hold).setDeadlines []).timer.deadlines, d.slot = 3 → d.kind = .hold → d.due = false := by
  refine ⟨⟨by decide +kernel, by decide +kernel, opened_deadlines true true rfl (by decide) rfl, by decide +kernel⟩, by decide +kernel,
    by decide +kernel, by decide +kernel⟩

/-- A mute record, a record at the edge of a band, and the supervisor's at its cap. -/
theorem witness_OutcomeScored :
    StandingRec.sound false { score := 255, standing := .restricted, severPending := true, reportPending := false } ∧
    StandingRec.sound false { score := 159, standing := .warned, severPending := false, reportPending := false } ∧
    StandingRec.sound false { score := 254, standing := .restricted, severPending := false, reportPending := false } ∧
    StandingRec.sound true { score := 254, standing := .restricted, severPending := false, reportPending := true } := by
  refine ⟨?_, ?_, ?_, ?_⟩ <;> (unfold StandingRec.sound; decide)

theorem witness_RestoreTaken :
    StandingSound (asking (cutOff running 1) 0 (.restore 1)) ∧
    Passes (asking (cutOff running 1) 0 (.restore 1)) 0 0x31 (.restore (BitVec.ofNat 8 (1 : Port).val)) := by
  unfold Passes Taken StandingSound StandingRec.sound; decide +kernel

theorem witness_SeverTaken :
    (doomed (withPoint opened (bothEntries false false)) 1).standing.request = some (.sever 1) ∧
    (doomed (withPoint opened (bothEntries false false)) 1).nextGrant = some .standing ∧
    ((doomed (withPoint opened (bothEntries false false)) 1).record 1).severPending = true ∧
    (doomed (withPoint opened (bothEntries false false)) 1).point 3 = some opened ∧ opened.state ≠ .retiring ∧
    (doomed (withPoint opened (bothEntries false false)) 1).point 4 = none := by decide +kernel

/-- A RETIRING point of the severed port, named by the one entry of its queue. -/
def draining : State :=
  (withPoint { live with state := .retiring, committed := [], pendingBuf := [], refs := 1 } []).setQueue 1 [.retired 3 0x001000 65535 2 false]

theorem witness_SeverTaken_retiring :
    (doomed draining 1).standing.request = some (.sever 1) ∧ (doomed draining 1).nextGrant = some .standing ∧
    ((doomed draining 1).record 1).severPending = true ∧
    (doomed draining 1).point 3 = some { live with state := .retiring, committed := [], pendingBuf := [], refs := 1 } ∧
    namedIn ((doomed draining 1).queue 1) 3 = 1 := by decide +kernel

theorem witness_RestorationCompleted :
    (restored (withPoint { live with orphaned := true } []) 1).standing.request = some (.restored 1) ∧
    (restored (withPoint { live with orphaned := true } []) 1).nextGrant = some .standing ∧
    ((restored (withPoint { live with orphaned := true } []) 1).record 1).standing = .restoring ∧
    (restored (withPoint { live with orphaned := true } []) 1).point 3 = some { live with orphaned := true } := by decide +kernel

theorem witness_StandingReported :
    ((scored running 1 96 .warned).setStandingRequest (some (.change 1))).standing.request = some (.change 1) ∧
    ((scored running 1 96 .warned).setStandingRequest (some (.change 1))).nextGrant = some .standing := by decide +kernel

theorem witness_ResetEntered :
    (demo.supply.state = .running ∨ demo.supply.state = .settling) ∧
    (demo.setSupply { demo.supply with swm := .reset }).supply.swm = .reset := by decide +kernel

theorem witness_SupplyReturns :
    State.reset.supply.state = .reset ∧ (inSupply demo .settling).supply.state = .settling ∧
    (inSupply demo .frozen).supply.state = .frozen := by decide +kernel

/-- P1's request is presented, P2 has none. -/
theorem witness_FreezeWithdraws :
    demo.supply.state = .running ∧ demo.supply.swm = .freeze ∧ (demo.engine 2).request = none ∧
    (demo.engine 1).request = some { tag := 0x31, request := .commit 3 } := by decide +kernel

theorem witness_StoreAlwaysAccounted : StoreAccounted demo ∧ ∃ t, step demo = .next t := ⟨demo_store, demo_steps⟩
theorem witness_IndexAlwaysExact : IndexExact demo ∧ ∃ t, step demo = .next t := ⟨demo_index, demo_steps⟩
theorem witness_RefsAlwaysExact :
    RefsExact demo ∧ QueuesSound demo ∧ demo.point 3 = some { opened with refs := 1 } ∧ ∃ t, step demo = .next t :=
  ⟨demo_refs, demo_queues, demo_point 3, demo_steps⟩
theorem witness_RecordsAlwaysSound : RecordsSound demo ∧ ∃ t, step demo = .next t := ⟨demo_records, demo_steps⟩
theorem witness_UpdatesAlwaysCounted : UpdatesCounted demo ∧ ∃ t, step demo = .next t := ⟨demo_updates, demo_steps⟩
theorem witness_DeadlinesAlwaysExact : DeadlinesExact demo ∧ ∃ t, step demo = .next t := ⟨demo_deadlines, demo_steps⟩
theorem witness_TimerAlwaysSound : TimerSound demo ∧ ∃ t, step demo = .next t := ⟨demo_timer, demo_steps⟩
theorem witness_QueuesAlwaysSound : QueuesSound demo ∧ ∃ t, step demo = .next t := ⟨demo_queues, demo_steps⟩
theorem witness_StandingAlwaysSound : StandingSound demo ∧ ∃ t, step demo = .next t := ⟨demo_standing, demo_steps⟩
/-- The completion of a restoration presented, at count 32, and a standing change presented. -/
theorem witness_StandingAlwaysSound_presented :
    StandingSound (restored running 1) ∧ (restored running 1).standing.request = some (.restored 1) ∧
    StandingSound ((running.setRecord 1 { running.record 1 with reportPending := true }).setStandingRequest (some (.change 1))) := by
  refine ⟨?_, by decide +kernel, ?_⟩ <;> (unfold StandingSound StandingRec.sound; decide +kernel)

theorem witness_LinkAlwaysSound : LinkSound demo ∧ ∃ t, step demo = .next t := ⟨demo_link, demo_steps⟩
theorem witness_OrphansAlwaysExact : StandingSound demo ∧ LinkSound demo ∧ OrphansExact demo ∧ ∃ t, step demo = .next t :=
  ⟨demo_standing, demo_link, demo_orphans, demo_steps⟩

theorem witness_PointsKeepTheirNames :
    (∃ t, exec (.commit 1 3) demo = .next t) ∧ Instr.commit 1 3 ≠ .powerOnReset ∧ Instr.commit 1 3 ≠ .pinReset ∧
    Instr.commit 1 3 ≠ .supplyReset ∧ demo.point 4 = none ∧ demo.point 3 = some { opened with refs := 1 } :=
  ⟨exists_next (by decide +kernel), by decide, by decide, by decide, by decide +kernel, by decide +kernel⟩

end Sys2Proof.Tests
end

section
/-! SUPPORT. What a command can do to the directory and the queues, said once: `Change` lists the ways in which an operation moves them,
`requestOp_changes` and `exec_moves` say that every command is a chain of such changes. The laws of the directory are then
shown for one change at a time. -/

namespace Sys2Proof.Machine

open Host (Outcome)

/-! ## Requests and their operations -/

/-- The operation that port `p`'s request is carried out by. RESEND never reaches the arbiter (R152). -/
def requestOp (p : Port) : Request → State → State × Reply
  | .nop => nopOp
  | .status => statusOp p
  | .attend on => attendOp p on
  | .resend _ => nopOp
  | .create key width readers fresh => createOp p key width readers fresh
  | .find target => findOp p target
  | .read i offset length => readOp p i offset length
  | .scan key mask after count => scanOp p key mask after count
  | .openUpdate i => openOp p i
  | .write i offset data => writeOp p i offset data
  | .commit i => commitOp p i
  | .discard i => discardOp p i
  | .put i offset data => putOp p i offset data
  | .refresh i => refreshOp p i
  | .retire i => retireOp p i
  | .watch filter key mask kinds => watchOp p filter key mask kinds
  | .unwatch filter => unwatchOp p filter
  | .take count => takeOp p count
  | .restore target => restoreOp p target
  | .flush target => flushOp p target
  | .reassign i target => reassignOp p i target
  | .timing tickdiv holdlim => timingOp p tickdiv holdlim

/-- A taken command is the grant of its request to its port, with the request's operation. -/
theorem exec_taken {p : Port} {r : Request} {c : Instr} (h : r.taken p = some c) (s : State) :
    exec c s = s.grantPort p r (requestOp p r) := by
  cases r with
  | resend => cases h
  | _ => cases h; rfl

/-! ## Changes -/

/-- What a command may do to the points beyond what every command may: fill a slot, publish slot `i` for port `p`, give slot `i` to
another owner, retire slot `i`, or drain RETIRING slots. -/
inductive Special where
  | plain
  | create
  | publish (p : Port) (i : Slot)
  | give (i : Slot)
  | retire (i : Slot)
  | drain

/-- The fields CREATE gave a point are the same. -/
structure Point.SameName (pt pt' : Point) : Prop where
  key : pt'.key = pt.key
  width : pt'.width = pt.width
  readers : pt'.readers = pt.readers
  fresh : pt'.fresh = pt.fresh

/-- `pt'` is `pt` with other buffers or flags, or STALE for LIVE: nothing a count or the index depends on is moved. -/
structure Point.Edits (pt pt' : Point) : Prop where
  name : pt.SameName pt'
  owner : pt'.owner = pt.owner
  version : pt'.version = pt.version
  refs : pt'.refs = pt.refs
  updateOpen : pt'.updateOpen = pt.updateOpen
  retiring : pt'.state = .retiring ↔ pt.state = .retiring
  vacant : pt'.state = .vacant → pt.state = .vacant
  sound : pt.sound → pt'.sound

/-- Directory and queues are as they were. -/
structure Untouched (s t : State) : Prop where
  dir : t.dir = s.dir
  queue : ∀ q, t.queue q = s.queue q

/-- The requests presented to the arbiter, its last grant and the supervisor are as they were. -/
structure RequestsKept (s t : State) : Prop where
  ports : ∀ q, (t.engine q).request = (s.engine q).request
  timer : t.timer.request = s.timer.request
  standing : t.standing.request = s.standing.request
  supervisor : t.supervisor = s.supervisor
  grant : t.lastGrant = s.lastGrant

/-- Steps 2 to 8 of R111, on a point with no update open. -/
def State.retireSlot (s : State) (i : Slot) : State := ((s.retirePoint i).routeRetired i).freeIfUnnamed i

/-- Step 2 of R138: the updates that port `p` holds open are closed. -/
def State.dropUpdates (s : State) (p : Port) : State := ((s.openSlots p).foldl State.dropUpdate s).setOpenUpdates p 0

/-- Slot `i` holds the new point `pt`, whose entry joins the index and whose granules are taken (R23). -/
def State.fillSlot (s : State) (i : Slot) (pt : Point) : State :=
  ((s.setPoint i (some pt)).setIndex (indexInsert pt.key i s.dir.index)).setFreeGranules
    (s.dir.freeGranules - 2 * granulesFor pt.width)

/-- A point whose pending buffer has become its committed value (R39). -/
def Point.committedPending (pt : Point) : Point :=
  { pt with committed := pt.pendingBuf, pendingBuf := pt.committed, version := nextVersion pt.version, state := .live,
            refreshPending := false }

/-- A change that fills a slot or frees one, and the command's special change it takes. -/
inductive Turnover (x : Special) : State → State → Prop where
  | fill {s : State} {i : Slot} {p : Port} {key : Key} {width : Nat} {readers : PortSet} {fresh : BitVec 16} (hx : x = .create)
      (h : s.point i = none) (hk : s.lookupKey key = none) (hw : 1 ≤ width ∧ width ≤ Config.maxWidth)
      (hg : 2 * granulesFor width ≤ s.dir.freeGranules) : Turnover x s (s.fillSlot i (newPoint p key width readers fresh))
  | retire {s : State} {i : Slot} {pt : Point} (hx : x = .retire i) (h : s.point i = some pt) (hs : pt.state ≠ .retiring)
      (hu : pt.updateOpen = false) : Turnover x s (s.retireSlot i)
  | release {s : State} {p : Port} {gone left : List Notice} (hx : x = .drain) (hq : s.queue p = gone ++ left) :
      Turnover x s ((s.setQueue p left).releaseRefs gone)

/-- One whole move of the directory and the queues. -/
inductive Change (x : Special) : State → State → Prop where
  | aside {s t : State} (hu : Untouched s t) (hr : RequestsKept s t) : Change x s t
  | edit {s : State} {i : Slot} {pt : Point} (pt' : Point) (h : s.point i = some pt) (he : pt.Edits pt') :
      Change x s (s.setPoint i (some pt'))
  | offer {s : State} (p : Port) (n : Notice) (hn : ∀ i, n.slot? = some i → (s.point i).isSome) : Change x s (s.offer p n)
  | openUpdate {s : State} {i : Slot} {pt : Point} (h : s.point i = some pt) (hs : pt.state ≠ .retiring)
      (hu : pt.updateOpen = false) (hn : s.openUpdates pt.owner < Config.maxOpenUpdates) :
      Change x s ((s.setPoint i (some { pt with pendingBuf := pt.committed, updateOpen := true })).setOpenUpdates pt.owner
        (s.openUpdates pt.owner + 1))
  | closeUpdate (s : State) (i : Slot) : Change x s (s.closeUpdate i)
  | dropUpdates (s : State) (p : Port) : Change x s (s.dropUpdates p)
  | publish {s : State} {i : Slot} {pt : Point} (hx : x = .publish pt.owner i) (h : s.point i = some pt)
      (hs : pt.state ≠ .retiring) : Change x s (s.setPoint i (some pt.committedPending))
  | give {s : State} {i : Slot} {pt : Point} (hx : x = .give i) (h : s.point i = some pt) (hs : pt.state ≠ .retiring)
      (hu : pt.updateOpen = false) (q : Port) : Change x s (s.setPoint i (some { pt with owner := q, orphaned := false }))
  | turnover {s t : State} (h : Turnover x s t) : Change x s t

/-- A chain of changes. -/
abbrev Changes (x : Special) : State → State → Prop := Relation.ReflTransGen (Change x)

theorem Change.changes {x : Special} {s t : State} (h : Change x s t) : Changes x s t := .single h

theorem Untouched.refl (s : State) : Untouched s s := ⟨rfl, fun _ => rfl⟩

theorem Untouched.of_notices {s t : State} (hd : t.dir = s.dir) (hn : t.notices = s.notices) : Untouched s t :=
  ⟨hd, fun q => by unfold State.queue; rw [hn]⟩

theorem Untouched.point {s t : State} (h : Untouched s t) (i : Slot) : t.point i = s.point i := by
  unfold State.point; rw [h.dir]

theorem Point.SameName.refl (pt : Point) : pt.SameName pt := ⟨rfl, rfl, rfl, rfl⟩

theorem Point.SameName.trans {a b c : Point} (h : a.SameName b) (h' : b.SameName c) : a.SameName c :=
  ⟨h'.key.trans h.key, h'.width.trans h.width, h'.readers.trans h.readers, h'.fresh.trans h.fresh⟩

theorem RequestsKept.refl (s : State) : RequestsKept s s := ⟨fun _ => rfl, rfl, rfl, rfl, rfl⟩

theorem RequestsKept.trans {s t u : State} (h : RequestsKept s t) (h' : RequestsKept t u) : RequestsKept s u :=
  ⟨fun q => (h'.ports q).trans (h.ports q), h'.timer.trans h.timer, h'.standing.trans h.standing,
    h'.supervisor.trans h.supervisor, h'.grant.trans h.grant⟩

/-- A fold whose every turn is a chain of changes, where each turn keeps what the later ones need. -/
theorem foldl_changes {α : Type} {x : Special} {f : State → α → State} {I : State → Prop} (l : List α)
    (hI : ∀ s a, a ∈ l → I s → I (f s a)) (h : ∀ s a, a ∈ l → I s → Changes x s (f s a)) (s : State) (hs : I s) :
    Changes x s (l.foldl f s) := by
  induction l generalizing s with
  | nil => exact .refl
  | cons a l ih =>
    have ha : a ∈ a :: l := List.mem_cons_self
    refine (h s a ha hs).trans (ih ?_ ?_ (f s a) (hI s a ha hs))
    · exact fun s b hb => hI s b (List.mem_cons_of_mem _ hb)
    · exact fun s b hb => h s b (List.mem_cons_of_mem _ hb)

/-- A fold keeps what each of its turns keeps. -/
theorem foldl_keep {α β : Type} {f : State → α → State} (g : State → β) (h : ∀ s a, g (f s a) = g s) (l : List α) (s : State) :
    g (l.foldl f s) = g s := by
  induction l generalizing s with
  | nil => rfl
  | cons a l ih => rw [List.foldl_cons, ih, h]

/-! ## Changes by the shared operations -/

theorem offer_point_isSome (s : State) (p : Port) (n : Notice) (j : Slot) :
    ((s.offer p n).point j).isSome = (s.point j).isSome := by
  rw [offer_point]; split <;> simp

theorem routeTo_point_isSome (i : Slot) (k : WatchKind) (mk : FilterNo → Notice) (s : State) (p : Port) (j : Slot) :
    ((State.routeTo i k mk s p).point j).isSome = (s.point j).isSome := by
  unfold State.routeTo
  split
  · rfl
  · split
    · rfl
    · exact offer_point_isSome _ _ _ _

section
variable {x : Special}

theorem aside_changes {s t : State} (hu : Untouched s t) (hr : RequestsKept s t) : Changes x s t := (Change.aside hu hr).changes

theorem disarm_changes (s : State) (i : Slot) (k : DeadlineKind) : Changes x s (s.disarm i k) :=
  aside_changes (.of_notices rfl rfl) ⟨fun _ => rfl, rfl, rfl, rfl, rfl⟩

theorem arm_changes (s : State) (i : Slot) (k : DeadlineKind) (n : Nat) : Changes x s (s.arm i k n) :=
  aside_changes (.of_notices rfl rfl) ⟨fun _ => rfl, rfl, rfl, rfl, rfl⟩

theorem setRecord_changes (s : State) (p : Port) (r : StandingRec) : Changes x s (s.setRecord p r) :=
  aside_changes (.of_notices rfl rfl) ⟨fun _ => rfl, rfl, rfl, rfl, rfl⟩

theorem setFilters_changes (s : State) (p : Port) (fs : Vector Filter 8) : Changes x s (s.setFilters p fs) :=
  aside_changes ⟨rfl, fun q => by simp⟩ ⟨fun _ => rfl, rfl, rfl, rfl, rfl⟩

theorem setEngine_changes (s : State) (p : Port) (e : Engine) (h : e.request = (s.engine p).request) :
    Changes x s (s.setEngine p e) := by
  refine aside_changes (.of_notices rfl rfl) ⟨fun q => ?_, rfl, rfl, rfl, rfl⟩
  rw [setEngine_engine]
  split
  · next hq => rw [h, hq]
  · rfl

theorem offer_changes (s : State) (p : Port) (n : Notice) (hn : ∀ i, n.slot? = some i → (s.point i).isSome) :
    Changes x s (s.offer p n) := (Change.offer p n hn).changes

theorem offerStanding_changes (s : State) (p : Port) (st : Standing) : Changes x s (s.offerStanding p st) :=
  offer_changes s _ _ (by simp [Notice.slot?])

/-- Routing an event on a point is a chain of offers. -/
theorem route_changes (s : State) (i : Slot) (k : WatchKind) (mk : FilterNo → Notice) (hmk : ∀ f, (mk f).slot? = some i)
    (hi : (s.point i).isSome) : Changes x s (s.route i k mk) := by
  refine foldl_changes (I := fun s => (s.point i).isSome) allPorts ?_ ?_ s hi
  · exact fun s p _ h => (routeTo_point_isSome i k mk s p i).trans h
  · intro s p _ h
    unfold State.routeTo
    split
    · exact .refl
    · split
      · exact .refl
      · next f _ =>
        refine offer_changes s p (mk f) fun j hj => ?_
        rw [hmk, Option.some.injEq] at hj
        exact hj ▸ h

theorem routeChanged_changes (s : State) (i : Slot) : Changes x s (s.routeChanged i) := by
  unfold State.routeChanged
  split
  · exact .refl
  · next h => exact route_changes s i _ _ (fun _ => rfl) (h ▸ rfl)

theorem routeStale_changes (s : State) (i : Slot) : Changes x s (s.routeStale i) := by
  unfold State.routeStale
  split
  · exact .refl
  · next h => exact route_changes s i _ _ (fun _ => rfl) (h ▸ rfl)

theorem routeOwner_changes (o : Option Port) (s : State) (i : Slot) : Changes x s (State.routeOwner o s i) := by
  unfold State.routeOwner
  split
  · exact .refl
  · next h => exact route_changes s i _ _ (fun _ => rfl) (h ▸ rfl)

theorem closeUpdate_changes (s : State) (i : Slot) : Changes x s (s.closeUpdate i) := (Change.closeUpdate s i).changes

theorem edit_changes {s : State} {i : Slot} {pt : Point} (pt' : Point) (h : s.point i = some pt) (he : pt.Edits pt') :
    Changes x s (s.setPoint i (some pt')) := (Change.edit pt' h he).changes

theorem expireUpdate_changes (s : State) (i : Slot) : Changes x s (s.expireUpdate i) := by
  unfold State.expireUpdate
  split
  · exact .refl
  · next pt h =>
    split
    · refine (closeUpdate_changes s i).trans (offer_changes _ _ _ fun j hj => ?_)
      obtain rfl : i = j := by simpa [Notice.slot?] using hj
      simp [h]
    · exact .refl

theorem publish_changes {s : State} {i : Slot} {pt : Point} (h : s.point i = some pt) (hs : pt.state ≠ .retiring) :
    Changes (.publish pt.owner i) s (s.publish i) := by
  unfold State.publish
  split
  · exact .refl
  · next pt' h' =>
    obtain rfl : pt' = pt := by simpa [h'] using h
    refine .trans (Change.publish rfl h hs).changes (.trans ?_ (routeChanged_changes _ _))
    split
    · exact disarm_changes _ _ _
    · exact arm_changes _ _ _ _

theorem flushQueue_changes (s : State) (p : Port) : Changes .drain s (s.flushQueue p) :=
  (Change.turnover (.release rfl (List.append_nil _).symm)).changes

end

/-! ## Edits of a record -/

/-- Bytes put into a buffer leave its length as it was when they fit. -/
theorem splice_length (buf : List Byte) (offset : Nat) (data : List Byte) (h : offset + data.length ≤ buf.length) :
    (splice buf offset data).length = buf.length := by
  simp only [splice, List.length_append, List.length_take, List.length_drop]
  omega

/-- A living point's buffers are as wide as the point. -/
theorem Point.sound.buffers {pt : Point} (h : pt.sound) (hs : pt.state ≠ .retiring) :
    pt.committed.length = pt.width ∧ pt.pendingBuf.length = pt.width := by
  unfold Point.sound at h
  cases hst : pt.state <;> simp_all

/-- The flags of a living point and the contents of its pending buffer are free (R2). -/
theorem Point.sound.of_living {pt pt' : Point} (h : pt.sound) (hs : pt.state ≠ .retiring) (hst : pt'.state = pt.state)
    (hw : pt'.width = pt.width) (hv : pt'.version = pt.version) (hc : pt'.committed = pt.committed)
    (hb : pt'.pendingBuf.length = pt.width) : pt'.sound := by
  unfold Point.sound at h ⊢
  cases hp : pt.state <;> simp_all

/-- A point that is no longer orphaned is sound (R2). -/
theorem Point.sound.adopted {pt : Point} (h : pt.sound) : ({ pt with orphaned := false } : Point).sound := by
  unfold Point.sound at h ⊢
  cases hst : pt.state <;> simp_all

theorem Point.edits_pendingBuf (pt : Point) (hs : pt.state ≠ .retiring) (buf : List Byte)
    (hb : pt.sound → buf.length = pt.width) : pt.Edits { pt with pendingBuf := buf } :=
  ⟨⟨rfl, rfl, rfl, rfl⟩, rfl, rfl, rfl, rfl, .rfl, id, fun h => h.of_living hs rfl rfl rfl rfl (hb h)⟩

theorem Point.edits_refreshPending (pt : Point) (hs : pt.state ≠ .retiring) : pt.Edits { pt with refreshPending := true } :=
  ⟨⟨rfl, rfl, rfl, rfl⟩, rfl, rfl, rfl, rfl, .rfl, id, fun h => h.of_living hs rfl rfl rfl rfl (h.buffers hs).2⟩

theorem Point.edits_orphaned (pt : Point) (hs : pt.state ≠ .retiring) :
    pt.Edits { pt with refreshPending := false, orphaned := true } :=
  ⟨⟨rfl, rfl, rfl, rfl⟩, rfl, rfl, rfl, rfl, .rfl, id, fun h => h.of_living hs rfl rfl rfl rfl (h.buffers hs).2⟩

theorem Point.edits_adopted (pt : Point) : pt.Edits { pt with orphaned := false } :=
  ⟨⟨rfl, rfl, rfl, rfl⟩, rfl, rfl, rfl, rfl, .rfl, id, Point.sound.adopted⟩

theorem Point.edits_stale (pt : Point) (hs : pt.state = .live) : pt.Edits { pt with state := .stale } := by
  refine ⟨⟨rfl, rfl, rfl, rfl⟩, rfl, rfl, rfl, rfl, by simp [hs], by simp, fun h => ?_⟩
  unfold Point.sound at h ⊢
  simp_all

/-! ## Changes by the requests' operations -/

/-- The FREE slot that CREATE takes is free (R14). -/
theorem point_of_lowestFree {s : State} {i : Slot} (h : s.lowestFree = some i) : s.point i = none := by
  simpa using List.find?_some h

theorem createOp_changes (p : Port) (key : Key) (width : Byte) (readers : PortSet) (fresh : BitVec 16) (s : State) :
    Changes .create s (createOp p key width readers fresh s).1 := by
  fun_cases createOp p key width readers fresh s with
  | case6 hl hw hk i hi hg =>
    have hk' : s.lookupKey key = none := by simpa using hk
    exact (Change.turnover (.fill rfl (point_of_lowestFree hi) hk' (by omega) (by omega))).changes
  | _ => exact .refl

theorem openOp_changes (p : Port) (i : Slot) (s : State) : Changes .plain s (openOp p i s).1 := by
  fun_cases openOp p i s with
  | case7 hl pt h ho hs hu hn =>
    obtain rfl : pt.owner = p := by simpa using ho
    exact (Change.openUpdate h hs (by simpa using hu) (by omega)).changes.trans (arm_changes _ _ _ _)
  | _ => exact .refl

theorem writeOp_changes (p : Port) (i : Slot) (offset : Byte) (data : List Byte) (s : State) :
    Changes .plain s (writeOp p i offset data s).1 := by
  fun_cases writeOp p i offset data s with
  | case7 hl pt h ho hs hu hw =>
    refine edit_changes _ h (pt.edits_pendingBuf hs _ fun hp => ?_)
    obtain ⟨-, hb⟩ := hp.buffers hs
    rw [splice_length _ _ _ (by omega), hb]
  | _ => exact .refl

theorem commitOp_changes (p : Port) (i : Slot) (s : State) : Changes (.publish p i) s (commitOp p i s).1 := by
  fun_cases commitOp p i s with
  | case6 hl pt h ho hs hu =>
    obtain rfl : pt.owner = p := by simpa using ho
    have hc : (s.closeUpdate i).point i = some { pt with updateOpen := false } := by simp [h]
    exact (closeUpdate_changes s i).trans (publish_changes (pt := { pt with updateOpen := false }) hc hs)
  | _ => exact .refl

theorem discardOp_changes (p : Port) (i : Slot) (s : State) : Changes .plain s (discardOp p i s).1 := by
  fun_cases discardOp p i s with
  | case5 pt h ho hs hu => exact closeUpdate_changes s i
  | _ => exact .refl

theorem putOp_changes (p : Port) (i : Slot) (offset : Byte) (data : List Byte) (s : State) :
    Changes (.publish p i) s (putOp p i offset data s).1 := by
  fun_cases putOp p i offset data s with
  | case7 hl pt h ho hs hu hw =>
    obtain rfl : pt.owner = p := by simpa using ho
    refine (edit_changes _ h (pt.edits_pendingBuf hs _ fun hp => ?_)).trans
      (publish_changes (pt := { pt with pendingBuf := splice pt.committed offset.toNat data }) (by simp) hs)
    obtain ⟨hb, -⟩ := hp.buffers hs
    rw [splice_length _ _ _ (by omega), hb]
  | _ => exact .refl

theorem refreshOp_changes (p : Port) (i : Slot) (s : State) : Changes .plain s (refreshOp p i s).1 := by
  fun_cases refreshOp p i s with
  | case7 hl pt h hr hs ho hp =>
    refine (edit_changes _ h (pt.edits_refreshPending hs)).trans (offer_changes _ _ _ fun j hj => ?_)
    obtain rfl : i = j := by simpa [Notice.slot?] using hj
    simp
  | _ => exact .refl

theorem retireOp_changes (p : Port) (i : Slot) (s : State) : Changes (.retire i) s (retireOp p i s).1 := by
  fun_cases retireOp p i s with
  | case5 hl pt h ho hs =>
    have hc : (s.closeUpdate i).point i = some { pt with updateOpen := false } := by simp [h]
    exact (closeUpdate_changes s i).trans (Change.turnover (.retire rfl hc hs rfl)).changes
  | _ => exact .refl

theorem watchOp_changes (p : Port) (filter : Byte) (key mask : Key) (kinds : KindSet) (s : State) :
    Changes .plain s (watchOp p filter key mask kinds s).1 := by
  fun_cases watchOp p filter key mask kinds s with
  | case3 hl f hf => exact setFilters_changes _ _ _
  | _ => exact .refl

theorem unwatchOp_changes (p : Port) (filter : Byte) (s : State) : Changes .plain s (unwatchOp p filter s).1 := by
  fun_cases unwatchOp p filter s with
  | case1 hf => exact .refl
  | case2 f hf => exact setFilters_changes _ _ _

theorem takeOp_changes (p : Port) (count : Byte) (s : State) : Changes .drain s (takeOp p count s).1 := by
  fun_cases takeOp p count s with
  | case1 hc => exact .refl
  | case2 hc gone left => exact (Change.turnover (.release rfl (List.take_append_drop _ _).symm)).changes

theorem restoreOp_changes (p : Port) (target : Byte) (s : State) : Changes .plain s (restoreOp p target s).1 := by
  fun_cases restoreOp p target s with
  | case4 hp q hq hs =>
    refine .trans ?_ (offerStanding_changes _ _ _)
    exact (setRecord_changes s q _).trans (setEngine_changes _ q _ rfl)
  | _ => exact .refl

theorem flushOp_changes (p : Port) (target : Byte) (s : State) : Changes .drain s (flushOp p target s).1 := by
  fun_cases flushOp p target s with
  | case3 hp q hq t => exact flushQueue_changes s q
  | _ => exact .refl

theorem remindOwner_changes {x : Special} (s : State) (i : Slot) : Changes x s (s.remindOwner i) := by
  unfold State.remindOwner
  split
  · exact .refl
  · next pt h =>
    split
    · refine offer_changes _ _ _ fun j hj => ?_
      obtain rfl : i = j := by simpa [Notice.slot?] using hj
      simp [h]
    · exact .refl

theorem giveTo_changes {s : State} {i : Slot} {pt : Point} (h : s.point i = some pt) (hs : pt.state ≠ .retiring)
    (hu : pt.updateOpen = false) (q : Port) : Changes (.give i) s (s.giveTo i q) := by
  have hg : s.giveTo i q = s.setPoint i (some { pt with owner := q, orphaned := false }) := by
    unfold State.giveTo; simp only [h]
  rw [hg]
  exact (Change.give rfl h hs hu q).changes

/-- After its update has expired, a point has none open and is else as it was but for its count. -/
theorem expireUpdate_point {s : State} {i : Slot} {pt : Point} (h : s.point i = some pt) :
    ∃ n, (s.expireUpdate i).point i = some { pt with updateOpen := false, refs := pt.refs + n } := by
  unfold State.expireUpdate
  simp only [h]
  split
  · rw [offer_point, closeUpdate_point, if_pos rfl, h]
    split
    · exact ⟨1, rfl⟩
    · exact ⟨0, rfl⟩
  · next hu =>
    refine ⟨0, ?_⟩
    rw [h]
    simp only [Bool.not_eq_true] at hu
    rw [← hu]; rfl

/-- The supervisor alone reassigns (R123). -/
theorem reassignOp_not_supervisor {p : Port} {s : State} (h : p ≠ s.supervisor) (i : Slot) (target : Byte) :
    (reassignOp p i target s).1 = s := by
  unfold reassignOp; rw [if_pos h]

theorem reassignOp_changes (p : Port) (i : Slot) (target : Byte) (s : State) :
    Changes (.give i) s (reassignOp p i target s).1 := by
  fun_cases reassignOp p i target s with
  | case6 hp q hq pt h hs hb =>
    obtain ⟨n, he⟩ := expireUpdate_point h
    exact (((expireUpdate_changes s i).trans (giveTo_changes he hs rfl q)).trans (remindOwner_changes _ i)).trans
      (routeOwner_changes _ _ i)
  | _ => exact .refl

theorem timingOp_changes (p : Port) (tickdiv : Byte) (holdlim : BitVec 16) (s : State) :
    Changes .plain s (timingOp p tickdiv holdlim s).1 := by
  fun_cases timingOp p tickdiv holdlim s with
  | case3 hp hh => exact aside_changes (.of_notices rfl rfl) ⟨fun _ => rfl, rfl, rfl, rfl, rfl⟩
  | _ => exact .refl

theorem findOp_state (p : Port) (target : FindBy) (s : State) : (findOp p target s).1 = s := by
  fun_cases findOp p target s <;> rfl

theorem readOp_state (p : Port) (i : Slot) (offset length : Byte) (s : State) : (readOp p i offset length s).1 = s := by
  fun_cases readOp p i offset length s <;> rfl

theorem scanOp_state (p : Port) (key mask : Key) (after : Option Key) (count : BitVec 3) (s : State) :
    (scanOp p key mask after count s).1 = s := by
  fun_cases scanOp p key mask after count s <;> rfl

/-! ## Changes by the timer and standing units' operations -/

theorem expireFresh_changes (s : State) (i : Slot) : Changes .plain s (s.expireFresh i) := by
  fun_cases State.expireFresh s i with
  | case1 s1 h => exact disarm_changes s i .fresh
  | case2 s1 pt h hs =>
    exact ((disarm_changes s i .fresh).trans (edit_changes _ h (pt.edits_stale hs))).trans (routeStale_changes _ _)
  | case3 s1 pt h hs => exact disarm_changes s i .fresh

theorem expireHold_changes (s : State) (i : Slot) : Changes .plain s (s.expireHold i) :=
  (disarm_changes s i .hold).trans (expireUpdate_changes _ i)

/-- None of the slots `l` holds a RETIRING point. -/
def State.NoneRetiring (s : State) (l : List Slot) : Prop := ∀ j ∈ l, ∀ pt ∈ s.point j, pt.state ≠ .retiring

theorem livingSlots_noneRetiring (s : State) (p : Port) : s.NoneRetiring (s.livingSlots p) := by
  intro j hj pt hpt
  simp only [State.livingSlots, List.mem_filter] at hj
  rw [Option.mem_def] at hpt
  simp only [hpt, Bool.and_eq_true, bne_iff_ne] at hj
  exact hj.2.2

theorem orphan_noneRetiring {s : State} {l : List Slot} (h : s.NoneRetiring l) (i : Slot) : (s.orphan i).NoneRetiring l := by
  intro j hj pt hpt
  unfold State.orphan at hpt
  split at hpt
  · exact h j hj pt hpt
  · next pt' h' =>
    rw [setPoint_point, Option.mem_def] at hpt
    split at hpt
    · next hij =>
      subst hij
      cases hpt
      exact h i hj pt' h'
    · exact h j hj pt hpt

theorem orphans_changes {x : Special} {s : State} {l : List Slot} (h : s.NoneRetiring l) : Changes x s (l.foldl State.orphan s) := by
  refine foldl_changes (I := fun s => s.NoneRetiring l) l (fun s i _ h => orphan_noneRetiring h i) ?_ s h
  intro s i hi h
  unfold State.orphan
  split
  · exact .refl
  · next pt hpt => exact edit_changes _ hpt (pt.edits_orphaned (h i hi pt hpt))

theorem clearPort_changes {x : Special} (s : State) (p : Port) : Changes x s (s.clearPort p) :=
  (setFilters_changes s p _).trans (setEngine_changes _ p _ rfl)

theorem severPort_changes (s : State) (p : Port) : Changes .drain s (s.severPort p) := by
  unfold State.severPort
  refine .trans ?_ (offerStanding_changes _ _ _)
  refine .trans ?_ (foldl_changes (I := fun _ => True) _ (fun _ _ _ _ => trivial)
    (fun s i _ _ => routeOwner_changes none s i) _ trivial)
  refine .trans ?_ (clearPort_changes _ p)
  refine .trans ?_ (flushQueue_changes _ p)
  refine .trans ?_ (orphans_changes (livingSlots_noneRetiring _ p))
  exact (setRecord_changes s p _).trans (Change.dropUpdates _ p).changes

theorem adopt_changes {x : Special} (p : Port) (s : State) (i : Slot) : Changes x s (State.adopt p s i) := by
  unfold State.adopt
  split
  · exact .refl
  · next pt h => exact (edit_changes _ h pt.edits_adopted).trans (routeOwner_changes _ _ i)

theorem restorePort_changes (s : State) (p : Port) : Changes .plain s (s.restorePort p) := by
  unfold State.restorePort
  refine .trans ?_ (offerStanding_changes _ _ _)
  refine .trans ?_ (foldl_changes (I := fun _ => True) _ (fun _ _ _ _ => trivial) (fun s i _ _ => adopt_changes p s i) _ trivial)
  exact (setRecord_changes s p _).trans (setEngine_changes _ p _ rfl)

theorem reportStanding_changes (s : State) (p : Port) : Changes .plain s (s.reportStanding p) :=
  (setRecord_changes s p _).trans (offerStanding_changes _ _ _)

/-! ## Every command -/

/-- The special change belongs to the command `c`, while port `sup` is the supervisor. -/
def Special.fits (sup : Port) (c : Instr) : Special → Prop
  | .plain => True
  | .create => ∃ p key width readers fresh, c = .create p key width readers fresh
  | .publish p i => c = .commit p i ∨ ∃ offset data, c = .put p i offset data
  | .give i => ∃ target, c = .reassign sup i target
  | .retire i => ∃ p, c = .retire p i
  | .drain => ∃ p x, c = .take p x ∨ c = .flush p x ∨ c = .sever p

/-- Every request's operation is a chain of changes that fit its command. -/
theorem requestOp_changes {p : Port} {r : Request} {c : Instr} (h : r.taken p = some c) (s : State) :
    ∃ x : Special, x.fits s.supervisor c ∧ Changes x s (requestOp p r s).1 := by
  cases r <;> cases h
  case nop => exact ⟨.plain, trivial, .refl⟩
  case status => exact ⟨.plain, trivial, .refl⟩
  case attend on => exact ⟨.plain, trivial, setEngine_changes _ _ _ rfl⟩
  case create key width readers fresh => exact ⟨.create, ⟨p, key, width, readers, fresh, rfl⟩, createOp_changes ..⟩
  case find target => exact ⟨.plain, trivial, by rw [requestOp, findOp_state]⟩
  case read i offset length => exact ⟨.plain, trivial, by rw [requestOp, readOp_state]⟩
  case scan key mask after count => exact ⟨.plain, trivial, by rw [requestOp, scanOp_state]⟩
  case openUpdate i => exact ⟨.plain, trivial, openOp_changes p i s⟩
  case write i offset data => exact ⟨.plain, trivial, writeOp_changes p i offset data s⟩
  case commit i => exact ⟨.publish p i, .inl rfl, commitOp_changes p i s⟩
  case discard i => exact ⟨.plain, trivial, discardOp_changes p i s⟩
  case put i offset data => exact ⟨.publish p i, .inr ⟨offset, data, rfl⟩, putOp_changes p i offset data s⟩
  case refresh i => exact ⟨.plain, trivial, refreshOp_changes p i s⟩
  case retire i => exact ⟨.retire i, ⟨p, rfl⟩, retireOp_changes p i s⟩
  case watch filter key mask kinds => exact ⟨.plain, trivial, watchOp_changes p filter key mask kinds s⟩
  case unwatch filter => exact ⟨.plain, trivial, unwatchOp_changes p filter s⟩
  case take count => exact ⟨.drain, ⟨p, count, .inl rfl⟩, takeOp_changes p count s⟩
  case restore target => exact ⟨.plain, trivial, restoreOp_changes p target s⟩
  case flush target => exact ⟨.drain, ⟨p, target, .inr (.inl rfl)⟩, flushOp_changes p target s⟩
  case reassign i target =>
    by_cases hp : p = s.supervisor
    · exact ⟨.give i, ⟨target, by rw [hp]⟩, reassignOp_changes p i target s⟩
    · exact ⟨.plain, trivial, by rw [requestOp, reassignOp_not_supervisor hp]⟩
  case timing tickdiv holdlim => exact ⟨.plain, trivial, timingOp_changes p tickdiv holdlim s⟩

/-- The command by which the timer unit's request for a deadline of kind `k` of slot `i` is taken. -/
def DeadlineKind.command (i : Slot) : DeadlineKind → Instr
  | .fresh => .freshExpiry i
  | .hold => .holdExpiry i

/-- The expiry of a deadline of kind `k` of slot `i`, carried out. -/
def State.expire (s : State) (i : Slot) : DeadlineKind → State
  | .fresh => s.expireFresh i
  | .hold => s.expireHold i

/-- The command by which the standing unit's request is taken. -/
def StandingRequest.command : StandingRequest → Instr
  | .sever p => .sever p
  | .restored p => .restorationComplete p
  | .change p => .standingChange p

/-- The port of the standing unit's request. -/
def StandingRequest.port : StandingRequest → Port
  | .sever p => p
  | .restored p => p
  | .change p => p

/-- The operation of the standing unit's request. -/
def StandingRequest.op (s : State) : StandingRequest → State
  | .sever p => s.severPort p
  | .restored p => s.restorePort p
  | .change p => s.reportStanding p

/-- The timer and standing units' presented requests stay presented. -/
structure UnitsStay (s t : State) : Prop where
  timer : ∀ x, s.timer.request = some x → t.timer.request = some x
  standing : ∀ r, s.standing.request = some r → t.standing.request = some r

/-- The ports' presented requests stay presented. -/
def PortsStay (s t : State) : Prop := ∀ q pr, (s.engine q).request = some pr → (t.engine q).request = some pr

/-- Everything that carrying out the command `c` can be: the grant of a port's request, of the timer unit's or of the standing unit's, an
entry to RESET, or an event that leaves the directory and the queues as they were. -/
inductive Happens (c : Instr) (s : State) : State → Prop where
  | taken {p : Port} {tag : Byte} {r : Request} (hc : r.taken p = some c) (ht : Taken s p tag r) :
      Happens c s ((requestOp p r (s.setGrant (.port p))).1.handBack p tag r.command (requestOp p r (s.setGrant (.port p))).2)
  | expired {i : Slot} {k : DeadlineKind} (hc : c = k.command i) (hr : s.timer.request = some (i, k))
      (hg : s.nextGrant = some .timer) :
      Happens c s (if s.isDue i k then State.expire ((s.setTimer { s.timer with request := none }).setGrant .timer) i k
        else (s.setTimer { s.timer with request := none }).setGrant .timer)
  | stood {r : StandingRequest} (hc : c = r.command) (hr : s.standing.request = some r) (hg : s.nextGrant = some .standing) :
      Happens c s (r.op (((s.setStandingRequest none).setLastPort r.port).setGrant .standing)).presentHeld
  | reset {t : State} (hc : c = .powerOnReset ∨ c = .pinReset ∨ c = .supplyReset) (hd : t.dir = Directory.reset)
      (hn : t.notices = Vector.replicate 4 NoticePort.reset) : Happens c s t
  | event {t : State} (hu : Untouched s t) (hs : UnitsStay s t) (hp : LinkSound s → c ≠ .droopFreeze → PortsStay s t) :
      Happens c s t

theorem Happens.idle (c : Instr) (s : State) : Happens c s s :=
  .event (.refl s) ⟨fun _ => id, fun _ => id⟩ fun _ _ _ _ => id

theorem grantPort_happens {c : Instr} {s t : State} {p : Port} {r : Request} (hc : r.taken p = some c)
    (h : s.grantPort p r (requestOp p r) = .next t) : Happens c s t := by
  by_cases ht : ∃ tag, Taken s p tag r
  · obtain ⟨tag, ht⟩ := ht
    rw [grantPort_of_taken _ ht] at h
    cases h
    exact .taken hc ht
  · rw [grantPort_of_not_taken _ (not_exists.mp ht)] at h
    cases h
    exact .idle c s

theorem grantTimer_happens {c : Instr} {s t : State} {i : Slot} {k : DeadlineKind} (hc : c = k.command i)
    (h : s.grantTimer i k (fun s => s.expire i k) = .next t) : Happens c s t := by
  by_cases hg : s.timer.request = some (i, k) ∧ s.nextGrant = some .timer
  · rw [grantTimer_granted _ hg.1 hg.2] at h
    cases h
    exact .expired hc hg.1 hg.2
  · rw [State.grantTimer, if_neg hg] at h
    cases h
    exact .idle c s

theorem grantStanding_happens {c : Instr} {s t : State} {r : StandingRequest} (hc : c = r.command)
    (h : s.grantStanding r r.port r.op = .next t) : Happens c s t := by
  by_cases hg : s.standing.request = some r ∧ s.nextGrant = some .standing
  · rw [grantStanding_granted _ hg.1 hg.2] at h
    cases h
    exact .stood hc hg.1 hg.2
  · rw [State.grantStanding, if_neg hg] at h
    cases h
    exact .idle c s

/-- A meaning that is an event under its condition, and otherwise changes nothing. -/
theorem Happens.of_ite {c : Instr} {s t u : State} {cond : Prop} [Decidable cond] (hu : cond → Happens c s u)
    (h : (if cond then Outcome.next u else .next s : Outcome State Fault Refusal) = .next t) : Happens c s t := by
  split at h <;> cases h
  · next hc => exact hu hc
  · exact .idle c s

theorem Happens.of_idle {c : Instr} {s t : State} (h : (.next s : Outcome State Fault Refusal) = .next t) : Happens c s t := by
  cases h
  exact .idle c s

/-! ### Events of the port engines -/

@[simp] theorem send_request (e : Engine) (a : Answer) : (e.send a).request = e.request := by
  unfold Engine.send; split <;> rfl

@[simp] theorem silence_request (e : Engine) : e.silence.request = e.request := by
  unfold Engine.silence Engine.blankPeriod; cases e.period <;> dsimp only <;> split <;> rfl

theorem presentHeld_stay (s : State) (r : StandingRequest) (h : s.standing.request = some r) :
    s.presentHeld.standing.request = some r := by
  rw [presentHeld_request, h, Option.some_or]

/-- An answer that an engine forms itself touches no queue and no slot, and takes no request from the arbiter. -/
theorem answerFrame_happens (c : Instr) (s : State) (p : Port) (frame : List Byte) (a : Answer) (st : Status) :
    Happens c s (s.answerFrame p frame a st) := by
  obtain ⟨he, -, ho, hr, -⟩ := settleOutcome_spec (((s.acceptBytes p frame).send p a).breakRun p) p st
  obtain ⟨hd, hn, ht, -, -, -⟩ := settleOutcome_keeps (((s.acceptBytes p frame).send p a).breakRun p) p st
  refine .event (.of_notices ?_ ?_) ⟨fun x hx => ?_, fun r hx => ?_⟩ fun _ _ q pr hq => ?_
  · rw [State.answerFrame, hd, breakRun_eq]; rfl
  · rw [State.answerFrame, hn, breakRun_eq]; rfl
  · rw [State.answerFrame, ht, breakRun_eq]; exact hx
  · rw [State.answerFrame, hr, breakRun_eq]
    simp only [State.acceptBytes, State.send, setEngine_standing, hx, Option.some_or]
  · rw [State.answerFrame]
    by_cases hqp : q = p
    · subst hqp
      rw [he]
      split <;> simpa [breakRun_eq, State.acceptBytes, State.send] using hq
    · rw [(ho q hqp).1]
      simpa [breakRun_eq, State.acceptBytes, State.send, Ne.symm hqp] using hq

/-- An engine that is receiving a frame has no request presented (R149). -/
theorem LinkSound.request_of_receiving {s : State} (hl : LinkSound s) {p : Port} (h : s.receiving p = true) :
    (s.engine p).request = none := by
  obtain ⟨hs, -⟩ := hl
  obtain ⟨hf, -⟩ := hs p
  simp only [State.receiving, Bool.and_eq_true, beq_iff_eq] at h
  obtain ⟨⟨⟨hlink, -⟩, -⟩, -⟩ := h
  rw [hlink] at hf
  simpa using hf

theorem execBadFrame_happens {c : Instr} {s t : State} {p : Port} {frame : List Byte} (h : execBadFrame p frame s = .next t) :
    Happens c s t := by
  unfold execBadFrame at h
  split at h
  · exact .of_ite (fun _ => answerFrame_happens ..) h
  · exact .of_idle h

theorem execCheckFail_happens {c : Instr} {s t : State} {p : Port} {frame : List Byte} (h : execCheckFail p frame s = .next t) :
    Happens c s t := by
  unfold execCheckFail at h
  split at h
  · exact .of_ite (fun _ => answerFrame_happens ..) h
  · exact .of_idle h

theorem execHeld_happens {c : Instr} {s t : State} {p : Port} {frame : List Byte} (h : execHeld p frame s = .next t) :
    Happens c s t := by
  unfold execHeld at h
  split at h
  · exact .of_ite (fun _ => answerFrame_happens ..) h
  · exact .of_idle h

theorem execResend_happens {c : Instr} {s t : State} {p : Port} {frame : List Byte} (h : execResend p frame s = .next t) :
    Happens c s t := by
  unfold execResend at h
  split at h
  · exact .of_ite (fun _ => answerFrame_happens ..) h
  · exact .of_idle h

/-- Moving an engine that keeps its request, if it has one, is such an event. -/
theorem setEngine_happens (c : Instr) (s : State) (p : Port) (e : Engine)
    (h : LinkSound s → ∀ pr, (s.engine p).request = some pr → e.request = some pr) : Happens c s (s.setEngine p e) := by
  refine .event (.of_notices rfl rfl) ⟨fun _ => id, fun _ => id⟩ fun hl _ q pr hq => ?_
  rw [setEngine_engine]
  split
  · next hpq => subst hpq; exact h hl pr hq
  · exact hq

theorem execRequestPresented_happens {c : Instr} {s t : State} {p : Port} {frame : List Byte}
    (h : execRequestPresented p frame s = .next t) : Happens c s t := by
  unfold execRequestPresented at h
  split at h
  · refine .of_ite (fun hr => ?_) h
    simp only [State.acceptBytes, setEngine_setEngine]
    refine setEngine_happens _ _ _ _ fun hl pr hq => ?_
    rw [hl.request_of_receiving hr.1] at hq
    cases hq
  · exact .of_idle h

theorem execSelectPeriodStart_happens {c : Instr} {s t : State} {p : Port} (h : execSelectPeriodStart p s = .next t) :
    Happens c s t := by
  unfold execSelectPeriodStart at h
  dsimp only at h
  split at h
  · split at h <;> cases h <;> exact setEngine_happens _ _ _ _ fun _ _ => id
  · exact .of_idle h

theorem execSelectPeriodEnd_happens {c : Instr} {s t : State} {p : Port} (h : execSelectPeriodEnd p s = .next t) :
    Happens c s t := by
  unfold execSelectPeriodEnd at h
  dsimp only at h
  split at h <;> cases h
  · exact .idle c s
  · exact setEngine_happens _ _ _ _ fun _ _ => id

/-! ### Events of the timer unit and the supply watch -/

theorem setSupply_happens (c : Instr) (s : State) (w : SupplyWatch) : Happens c s (s.setSupply w) :=
  .event (.of_notices rfl rfl) ⟨fun _ => id, fun _ => id⟩ fun _ _ _ _ => id

theorem execTick_happens {c : Instr} {s t : State} (h : execTick s = .next t) : Happens c s t := by
  unfold execTick at h
  refine .of_ite (fun _ => ?_) h
  exact .event (.of_notices rfl rfl) ⟨fun _ => id, fun _ => id⟩ fun _ _ _ _ => id

theorem execExpiryRequest_happens {c : Instr} {s t : State} (h : execExpiryRequest s = .next t) : Happens c s t := by
  unfold execExpiryRequest at h
  split at h
  · next hr _ =>
    refine .of_ite (fun _ => ?_) h
    exact .event (.of_notices rfl rfl) ⟨fun x hx => (Option.some_ne_none x (hx.symm.trans hr)).elim, fun _ => id⟩ fun _ _ _ _ => id
  · exact .of_idle h

theorem execResetRelease_happens {c : Instr} {s t : State} {sup : BitVec 2} {swm : Bool}
    (h : execResetRelease sup swm s = .next t) : Happens c s t := by
  unfold execResetRelease at h
  exact .of_ite (fun _ => setSupply_happens ..) h

theorem execSettleEnd_happens {c : Instr} {s t : State} (h : execSettleEnd s = .next t) : Happens c s t := by
  unfold execSettleEnd at h
  exact .of_ite (fun _ => setSupply_happens ..) h

theorem execDroopRecovery_happens {c : Instr} {s t : State} (h : execDroopRecovery s = .next t) : Happens c s t := by
  unfold execDroopRecovery at h
  exact .of_ite (fun _ => setSupply_happens ..) h

/-- A withdrawal moves one engine and nothing else. -/
theorem withdraw_eq (s : State) (p : Port) : ∃ e, s.withdraw p = s.setEngine p e := by
  unfold State.withdraw
  split
  · exact ⟨s.engine p, (setEngine_self s p).symm⟩
  · unfold State.muteEngine
    split
    · simp only [breakRun_eq, State.send, setEngine_setEngine]
      exact ⟨_, rfl⟩
    · simp only [breakRun_eq, State.send, setEngine_setEngine]
      exact ⟨_, rfl⟩

/-- Withdrawals keep whatever does not depend on the engines. -/
theorem withdraws_keep {β : Type} (g : State → β) (h : ∀ s p e, g (State.setEngine s p e) = g s) (s : State) :
    g (allPorts.foldl State.withdraw s) = g s := by
  refine foldl_keep g (fun s p => ?_) _ s
  obtain ⟨e, he⟩ := withdraw_eq s p
  rw [he, h]

theorem execDroopFreeze_happens {s t : State} (h : execDroopFreeze s = .next t) : Happens .droopFreeze s t := by
  unfold execDroopFreeze at h
  refine .of_ite (fun _ => .event (.of_notices ?_ ?_) ⟨fun x hx => ?_, fun r hr => presentHeld_stay _ r ?_⟩
    fun _ hc => (hc rfl).elim) h
  · rw [presentHeld_dir, withdraws_keep (fun s => s.dir) fun _ _ _ => rfl]; rfl
  · rw [presentHeld_notices, withdraws_keep (fun s => s.notices) fun _ _ _ => rfl]; rfl
  · rw [presentHeld_timer, withdraws_keep (fun s => s.timer) fun _ _ _ => rfl]; exact hx
  · rw [withdraws_keep (fun s => s.standing.request) fun _ _ _ => rfl]; exact hr

theorem execSupplyReset_happens {s t : State} (h : execSupplyReset s = .next t) : Happens .supplyReset s t := by
  unfold execSupplyReset at h
  exact .of_ite (fun _ => .reset (.inr (.inr rfl)) rfl rfl) h

/-- What carrying out any command can be. -/
theorem exec_happens {c : Instr} {s t : State} (h : exec c s = .next t) : Happens c s t := by
  cases c with
  | tick => exact execTick_happens h
  | expiryRequest => exact execExpiryRequest_happens h
  | freshExpiry i => exact grantTimer_happens (k := .fresh) rfl h
  | holdExpiry i => exact grantTimer_happens (k := .hold) rfl h
  | sever p => exact grantStanding_happens (r := .sever p) rfl h
  | restorationComplete p => exact grantStanding_happens (r := .restored p) rfl h
  | standingChange p => exact grantStanding_happens (r := .change p) rfl h
  | resend p frame => exact execResend_happens h
  | badFrame p frame => exact execBadFrame_happens h
  | checkFail p frame => exact execCheckFail_happens h
  | held p frame => exact execHeld_happens h
  | requestPresented p frame => exact execRequestPresented_happens h
  | selectPeriodStart p => exact execSelectPeriodStart_happens h
  | selectPeriodEnd p => exact execSelectPeriodEnd_happens h
  | powerOnReset => cases h; exact .reset (.inl rfl) rfl rfl
  | pinReset => cases h; exact .reset (.inr (.inl rfl)) rfl rfl
  | supplyReset => exact execSupplyReset_happens h
  | resetRelease sup swm => exact execResetRelease_happens h
  | settleEnd => exact execSettleEnd_happens h
  | droopFreeze => exact execDroopFreeze_happens h
  | droopRecovery => exact execDroopRecovery_happens h
  | nop p => exact grantPort_happens (r := .nop) rfl h
  | status p => exact grantPort_happens (r := .status) rfl h
  | attend p on => exact grantPort_happens (r := .attend on) rfl h
  | create p key width readers fresh => exact grantPort_happens (r := .create key width readers fresh) rfl h
  | find p target => exact grantPort_happens (r := .find target) rfl h
  | read p i offset length => exact grantPort_happens (r := .read i offset length) rfl h
  | scan p key mask after count => exact grantPort_happens (r := .scan key mask after count) rfl h
  | openUpdate p i => exact grantPort_happens (r := .openUpdate i) rfl h
  | write p i offset data => exact grantPort_happens (r := .write i offset data) rfl h
  | commit p i => exact grantPort_happens (r := .commit i) rfl h
  | discard p i => exact grantPort_happens (r := .discard i) rfl h
  | put p i offset data => exact grantPort_happens (r := .put i offset data) rfl h
  | refresh p i => exact grantPort_happens (r := .refresh i) rfl h
  | retire p i => exact grantPort_happens (r := .retire i) rfl h
  | watch p filter key mask kinds => exact grantPort_happens (r := .watch filter key mask kinds) rfl h
  | unwatch p filter => exact grantPort_happens (r := .unwatch filter) rfl h
  | take p count => exact grantPort_happens (r := .take count) rfl h
  | restore p target => exact grantPort_happens (r := .restore target) rfl h
  | flush p target => exact grantPort_happens (r := .flush target) rfl h
  | reassign p i target => exact grantPort_happens (r := .reassign i target) rfl h
  | timing p tickdiv holdlim => exact grantPort_happens (r := .timing tickdiv holdlim) rfl h

theorem handBack_untouched (s : State) (p : Port) (tag : Byte) (c : Command) (r : Reply) (hg : s.lastGrant = .port p) :
    Untouched s (s.handBack p tag c r) := by
  obtain ⟨-, hd, hn, -⟩ := handBack_answered s p tag c r hg
  exact .of_notices hd hn

theorem presentHeld_untouched (s : State) : Untouched s s.presentHeld :=
  .of_notices (presentHeld_dir s) (presentHeld_notices s)

theorem expire_changes (s : State) (i : Slot) (k : DeadlineKind) : Changes .plain s (s.expire i k) := by
  cases k with
  | fresh => exact expireFresh_changes s i
  | hold => exact expireHold_changes s i

theorem standingOp_changes (s : State) (r : StandingRequest) :
    ∃ x : Special, (∀ sup, x.fits sup r.command) ∧ Changes x s (r.op s) := by
  cases r with
  | sever p => exact ⟨.drain, fun _ => ⟨p, 0, .inr (.inr rfl)⟩, severPort_changes s p⟩
  | restored p => exact ⟨.plain, fun _ => trivial, restorePort_changes s p⟩
  | change p => exact ⟨.plain, fun _ => trivial, reportStanding_changes s p⟩

theorem Turnover.requestsKept {x : Special} {s t : State} (h : Turnover x s t) : RequestsKept s t := by
  cases h with
  | fill hx h hk hw hg => exact ⟨fun _ => rfl, rfl, rfl, rfl, rfl⟩
  | @retire i pt hx h hs hu =>
    have hp : RequestsKept s (s.retirePoint i) := by
      unfold State.retirePoint
      split
      · exact .refl s
      · exact ⟨fun _ => rfl, rfl, rfl, rfl, rfl⟩
    have hf : ∀ u, RequestsKept u (State.freeIfUnnamed u i) := fun u => by
      unfold State.freeIfUnnamed
      split
      · exact .refl u
      · split
        · exact ⟨fun _ => rfl, rfl, rfl, rfl, rfl⟩
        · exact .refl u
    exact (hp.trans ⟨by simp, by simp, by simp, by simp, by simp⟩).trans (hf _)
  | release hx hq => exact ⟨fun _ => by simp, by simp, by simp, by simp, by simp⟩

/-- The requests, the last grant and the supervisor survive one change. -/
theorem Change.requestsKept {x : Special} {s t : State} (h : Change x s t) : RequestsKept s t := by
  cases h with
  | aside hu hr => exact hr
  | edit pt' h he => exact ⟨fun _ => rfl, rfl, rfl, rfl, rfl⟩
  | offer p n hn => exact ⟨by simp, by simp, by simp, by simp, by simp⟩
  | openUpdate h hs hu hn => exact ⟨fun _ => rfl, rfl, rfl, rfl, rfl⟩
  | closeUpdate i =>
    refine ⟨by simp, ?_, by simp, by simp, by simp⟩
    rw [closeUpdate_timer]
    split
    · rfl
    · split <;> rfl
  | dropUpdates p =>
    have hd : ∀ s i, RequestsKept s (State.dropUpdate s i) := fun s i => by
      unfold State.dropUpdate
      split
      · exact .refl s
      · exact ⟨fun _ => rfl, rfl, rfl, rfl, rfl⟩
    unfold State.dropUpdates
    refine ⟨fun q => ?_, ?_, ?_, ?_, ?_⟩
    · exact foldl_keep (fun s => (s.engine q).request) (fun s i => (hd s i).ports q) _ s
    · exact foldl_keep (fun s => s.timer.request) (fun s i => (hd s i).timer) _ s
    · exact foldl_keep (fun s => s.standing.request) (fun s i => (hd s i).standing) _ s
    · exact foldl_keep (fun s => s.supervisor) (fun s i => (hd s i).supervisor) _ s
    · exact foldl_keep (fun s => s.lastGrant) (fun s i => (hd s i).grant) _ s
  | publish hx h hs => exact ⟨fun _ => rfl, rfl, rfl, rfl, rfl⟩
  | give hx h hs hu q => exact ⟨fun _ => rfl, rfl, rfl, rfl, rfl⟩
  | turnover h => exact h.requestsKept

theorem Changes.requestsKept {x : Special} {s t : State} (h : Changes x s t) : RequestsKept s t := by
  induction h with
  | refl => exact .refl s
  | tail _ hc ih => exact ih.trans hc.requestsKept

/-- What a command does to the directory and the queues is a chain of changes that fit it, or an entry to RESET. -/
theorem Happens.moves {c : Instr} {s t : State} (h : Happens c s t) :
    (∃ (x : Special) (u v : State), x.fits s.supervisor c ∧ Untouched s u ∧ Changes x u v ∧ Untouched v t) ∨
    ((c = .powerOnReset ∨ c = .pinReset ∨ c = .supplyReset) ∧ Untouched State.reset t) := by
  cases h with
  | @taken p tag r hc ht =>
    obtain ⟨x, hx, hm⟩ := requestOp_changes hc (s.setGrant (.port p))
    exact .inl ⟨x, s.setGrant (.port p), _, hx, .of_notices rfl rfl, hm, handBack_untouched _ _ _ _ _ hm.requestsKept.grant⟩
  | @expired i k hc hr hg =>
    refine .inl ⟨.plain, (s.setTimer { s.timer with request := none }).setGrant .timer, _, trivial, .of_notices rfl rfl, ?_, .refl _⟩
    split
    · exact expire_changes _ i k
    · exact .refl
  | @stood r hc hr hg =>
    obtain ⟨x, hx, hm⟩ := standingOp_changes (((s.setStandingRequest none).setLastPort r.port).setGrant .standing) r
    exact .inl ⟨x, ((s.setStandingRequest none).setLastPort r.port).setGrant .standing, _, hc ▸ hx _, .of_notices rfl rfl, hm,
      presentHeld_untouched _⟩
  | reset hc hd hn => exact .inr ⟨hc, .of_notices hd hn⟩
  | event hu => exact .inl ⟨.plain, s, s, trivial, .refl s, .refl, hu⟩

theorem clockPeriod_untouched (s : State) : Untouched s s.clockPeriod := by
  unfold State.clockPeriod
  split
  · split <;> exact .of_notices rfl rfl
  · split <;> exact .of_notices rfl rfl
  · exact .refl s
  · exact .refl s

/-- A law of the directory and the queues that holds after reset and survives each change holds after every step it held before. -/
theorem step_keeps {P : State → Prop} (hr : P State.reset) (hu : ∀ {s t}, Untouched s t → P s → P t)
    (hc : ∀ {x s t}, Change x s t → P s → P t) {s t : State} (hs : P s) (h : step s = .next t) : P t := by
  unfold step at h
  split at h
  · cases h
    exact hu (clockPeriod_untouched s) hs
  · next c rest _ =>
    have hs' : P { s with pending := rest } := hu (s := s) (.of_notices rfl rfl) hs
    rcases (exec_happens h).moves with ⟨x, u, v, -, hsu, huv, hvt⟩ | ⟨-, hrt⟩
    · refine hu hvt ?_
      clear hvt
      induction huv with
      | refl => exact hu hsu hs'
      | tail _ hm ih => exact hc hm ih
    · exact hu hrt hr

end Sys2Proof.Machine
end

section
/-! SUPPORT. The laws of the directory, each shown to survive one change: the value store (R15), the key index (R11), the reference counts
(R18), the records (R2) and the open-update counts (R21). -/

namespace Sys2Proof.Machine

/-! ## Sums and counts in which one place moves -/

theorem sum_map_add_of_ne {α : Type} [DecidableEq α] {l : List α} (hl : l.Nodup) {i : α} (hi : i ∈ l) {f g : α → Nat}
    (h : ∀ j, j ≠ i → g j = f j) : (l.map g).sum + f i = (l.map f).sum + g i := by
  have he : (l.erase i).map g = (l.erase i).map f :=
    List.map_congr_left fun j hj => h j (hl.mem_erase_iff.mp hj).1
  rw [← List.sum_map_erase g hi, ← List.sum_map_erase f hi, he]
  omega

theorem countP_add_of_ne {α : Type} [DecidableEq α] {l : List α} (hl : l.Nodup) {i : α} (hi : i ∈ l) {f g : α → Bool}
    (h : ∀ j, j ≠ i → g j = f j) : l.countP g + (f i).toNat = l.countP f + (g i).toNat := by
  have he : (l.erase i).countP g = (l.erase i).countP f :=
    List.countP_congr fun j hj => by rw [h j (hl.mem_erase_iff.mp hj).1]
  rw [(List.perm_cons_erase hi).countP_eq g, (List.perm_cons_erase hi).countP_eq f, List.countP_cons, List.countP_cons, he]
  cases f i <;> cases g i <;> simp

theorem allSlots_nodup : allSlots.Nodup := List.nodup_finRange _

theorem mem_allSlots (i : Slot) : i ∈ allSlots := List.mem_finRange i

/-! ## The points after a change -/

theorem dropUpdate_point (s : State) (i j : Slot) :
    (s.dropUpdate i).point j = if i = j then (s.point j).map fun pt => { pt with updateOpen := false } else s.point j := by
  unfold State.dropUpdate
  split
  · next h =>
    split
    · next hij => rw [← hij, h]; rfl
    · rfl
  · next pt h =>
    rw [disarm_point, setPoint_point]
    split
    · next hij => rw [← hij, h]; rfl
    · rfl

theorem dropUpdates_fold_point (l : List Slot) (s : State) (j : Slot) :
    (l.foldl State.dropUpdate s).point j =
      if j ∈ l then (s.point j).map fun pt => { pt with updateOpen := false } else s.point j := by
  induction l generalizing s with
  | nil => simp
  | cons i l ih =>
    rw [List.foldl_cons, ih, dropUpdate_point]
    by_cases hij : i = j
    · subst hij
      cases s.point i <;> simp
    · simp [hij, Ne.symm hij]

/-- A point of the severed port has no update open any more, and is else as it was (R138, step 2). -/
theorem dropUpdates_point (s : State) (p : Port) (j : Slot) :
    (s.dropUpdates p).point j = (s.point j).map fun pt => if pt.owner = p then { pt with updateOpen := false } else pt := by
  unfold State.dropUpdates
  rw [setOpenUpdates_point, dropUpdates_fold_point]
  have hm : j ∈ s.openSlots p ↔ ∃ pt, s.point j = some pt ∧ pt.owner = p ∧ pt.updateOpen = true := by
    unfold State.openSlots
    cases hj : s.point j <;> simp [hj, mem_allSlots]
  cases hj : s.point j with
  | none => simp
  | some pt =>
    by_cases ho : pt.owner = p
    · cases hu : pt.updateOpen
      · have : j ∉ s.openSlots p := by simp [hm, hj, hu]
        rw [if_neg this, Option.map_some, if_pos ho, ← hu]
      · have : j ∈ s.openSlots p := by simp [hm, hj, hu, ho]
        simp [this, ho]
    · have : j ∉ s.openSlots p := by simp [hm, hj, ho]
      simp [this, ho]

theorem dropUpdates_keep {β : Type} (g : State → β) (h : ∀ s i, g (State.dropUpdate s i) = g s)
    (h' : ∀ s p n, g (State.setOpenUpdates s p n) = g s) (s : State) (p : Port) : g (s.dropUpdates p) = g s := by
  unfold State.dropUpdates
  rw [h', foldl_keep g h]

/-- Closing an update in a sever moves no index entry, granule or count, and no queue. -/
theorem dropUpdate_keeps (s : State) (i : Slot) :
    ∃ table timer, s.dropUpdate i = { s with dir := { s.dir with table := table }, timer := timer } := by
  unfold State.dropUpdate
  split
  · exact ⟨s.dir.table, s.timer, rfl⟩
  · exact ⟨_, _, rfl⟩

@[simp] theorem dropUpdates_index (s : State) (p : Port) : (s.dropUpdates p).dir.index = s.dir.index := by
  refine dropUpdates_keep (fun s => s.dir.index) (fun s i => ?_) (fun _ _ _ => rfl) s p
  obtain ⟨_, _, h⟩ := dropUpdate_keeps s i
  rw [h]

@[simp] theorem dropUpdates_freeGranules (s : State) (p : Port) : (s.dropUpdates p).dir.freeGranules = s.dir.freeGranules := by
  refine dropUpdates_keep (fun s => s.dir.freeGranules) (fun s i => ?_) (fun _ _ _ => rfl) s p
  obtain ⟨_, _, h⟩ := dropUpdate_keeps s i
  rw [h]

@[simp] theorem dropUpdates_queue (s : State) (p q : Port) : (s.dropUpdates p).queue q = s.queue q := by
  refine dropUpdates_keep (fun s => s.queue q) (fun s i => ?_) (fun _ _ _ => rfl) s p
  obtain ⟨_, _, h⟩ := dropUpdate_keeps s i
  rw [h]; rfl

theorem dropUpdates_openUpdates (s : State) (p q : Port) :
    (s.dropUpdates p).openUpdates q = if p = q then 0 else s.openUpdates q := by
  unfold State.dropUpdates
  rw [setOpenUpdates_openUpdates, foldl_keep (fun s => s.openUpdates q)]
  intro s i
  obtain ⟨_, _, h⟩ := dropUpdate_keeps s i
  rw [h]; rfl

/-- A point as RETIRE leaves it, but for its count (R111, steps 2 to 6). -/
def Point.retired (pt : Point) : Point :=
  { pt with refreshPending := false, orphaned := false, state := .retiring, committed := [], pendingBuf := [] }

theorem retirePoint_eq {s : State} {i : Slot} {pt : Point} (h : s.point i = some pt) :
    s.retirePoint i = ((s.setPoint i (some pt.retired)).setFreeGranules (s.dir.freeGranules + pt.granules)).disarm i .fresh := by
  unfold State.retirePoint
  simp only [h]
  rfl

theorem freeIfUnnamed_point (s : State) (i j : Slot) :
    (s.freeIfUnnamed i).point j = if i = j then (s.point j).filter fun pt => pt.refs != 0 else s.point j := by
  unfold State.freeIfUnnamed
  split
  · next h =>
    split
    · next hij => rw [← hij, h]; rfl
    · rfl
  · next pt h =>
    by_cases hij : i = j
    · subst hij
      by_cases hr : pt.refs = 0 <;> simp [hr, h, Option.filter]
    · split <;> simp [hij]

@[simp] theorem freeIfUnnamed_freeGranules (s : State) (i : Slot) : (s.freeIfUnnamed i).dir.freeGranules = s.dir.freeGranules := by
  unfold State.freeIfUnnamed; split
  · rfl
  · split <;> simp

@[simp] theorem freeIfUnnamed_queue (s : State) (i : Slot) (q : Port) : (s.freeIfUnnamed i).queue q = s.queue q := by
  unfold State.freeIfUnnamed; split
  · rfl
  · split <;> simp

@[simp] theorem freeIfUnnamed_openUpdates (s : State) (i : Slot) (q : Port) :
    (s.freeIfUnnamed i).openUpdates q = s.openUpdates q := by
  unfold State.freeIfUnnamed; split
  · rfl
  · split <;> simp

theorem freeIfUnnamed_index (s : State) (i : Slot) :
    (s.freeIfUnnamed i).dir.index =
      if (s.point i).isSome ∧ ((s.freeIfUnnamed i).point i).isNone then indexRemove i s.dir.index else s.dir.index := by
  rw [freeIfUnnamed_point, if_pos rfl]
  unfold State.freeIfUnnamed
  split
  · next h => simp [h]
  · next pt h => by_cases hr : pt.refs = 0 <;> simp [hr, h, Option.filter]

/-- The point in slot `i`, once its RETIRED notice is offered, but for its count. -/
theorem routeRetired_point {s : State} {i : Slot} {pt : Point} (h : s.point i = some pt) :
    (∃ n, (s.routeRetired i).point i = some { pt with refs := pt.refs + n }) ∧
    ∀ j, j ≠ i → (s.routeRetired i).point j = s.point j := by
  unfold State.routeRetired
  simp only [h]
  obtain ⟨-, hi, hj⟩ := route_spec s i .retired (fun f => .retired i pt.key pt.version f false) (fun _ => rfl) pt h
  exact ⟨⟨_, hi⟩, hj⟩

/-- The slot that RETIRE was carried out on is RETIRING with the notices that name it, or FREE when there is none, and every other slot is
as it was (R111). -/
theorem retireSlot_point {s : State} {i : Slot} {pt : Point} (h : s.point i = some pt) :
    (∃ n, (s.retireSlot i).point i = (some { pt.retired with refs := n }).filter fun qt => qt.refs != 0) ∧
    ∀ j, j ≠ i → (s.retireSlot i).point j = s.point j := by
  have hp : (s.retirePoint i).point i = some pt.retired := by rw [retirePoint_eq h]; simp
  obtain ⟨⟨n, hi⟩, hj⟩ := routeRetired_point hp
  unfold State.retireSlot
  refine ⟨⟨pt.refs + n, ?_⟩, fun j hji => ?_⟩
  · rw [freeIfUnnamed_point, if_pos rfl, hi]; rfl
  · rw [freeIfUnnamed_point, if_neg (Ne.symm hji), hj j hji, retirePoint_eq h]
    simp [Ne.symm hji]

@[simp] theorem retireSlot_openUpdates {s : State} {i : Slot} {pt : Point} (h : s.point i = some pt) (q : Port) :
    (s.retireSlot i).openUpdates q = s.openUpdates q := by
  unfold State.retireSlot
  rw [retirePoint_eq h]
  simp

theorem retireSlot_freeGranules {s : State} {i : Slot} {pt : Point} (h : s.point i = some pt) :
    (s.retireSlot i).dir.freeGranules = s.dir.freeGranules + pt.granules := by
  unfold State.retireSlot
  rw [retirePoint_eq h]
  simp

theorem retireSlot_index {s : State} {i : Slot} {pt : Point} (h : s.point i = some pt) :
    (s.retireSlot i).dir.index =
      if ((s.retireSlot i).point i).isNone then indexRemove i s.dir.index else s.dir.index := by
  have hp : (s.retirePoint i).point i = some pt.retired := by rw [retirePoint_eq h]; simp
  obtain ⟨⟨n, hi⟩, -⟩ := routeRetired_point hp
  unfold State.retireSlot
  rw [freeIfUnnamed_index, routeRetired_index, hi, retirePoint_eq h]
  simp

/-! ## Changes that move no point's name -/

/-- What a change other than a turnover does to the point in slot `i`: it keeps its name, is RETIRING as it was, is VACANT only if it was,
and gets another version or owner only from the special change that brings it. -/
structure Point.SameLife (x : Special) (i : Slot) (pt pt' : Point) : Prop where
  name : pt.SameName pt'
  version : pt'.version = pt.version ∨ x = .publish pt.owner i
  owner : pt'.owner = pt.owner ∨ x = .give i
  retiring : pt'.state = .retiring ↔ pt.state = .retiring
  vacant : pt'.state = .vacant → pt.state = .vacant

/-- No slot is filled or freed and no point retired. -/
structure LivesKept (x : Special) (s t : State) : Prop where
  slots : ∀ i, Option.Rel (Point.SameLife x i) (s.point i) (t.point i)
  index : t.dir.index = s.dir.index
  freeGranules : t.dir.freeGranules = s.dir.freeGranules

section
variable {x : Special}

theorem Point.SameLife.of_eq {i : Slot} {pt pt' : Point} (hn : pt.SameName pt') (hv : pt'.version = pt.version)
    (ho : pt'.owner = pt.owner) (hs : pt'.state = pt.state) : pt.SameLife x i pt' :=
  ⟨hn, .inl hv, .inl ho, by rw [hs], fun h => hs ▸ h⟩

theorem Point.SameLife.refl (i : Slot) (pt : Point) : pt.SameLife x i pt := .of_eq (.refl pt) rfl rfl rfl

theorem sameLife_rel_refl (i : Slot) (a : Option Point) : Option.Rel (Point.SameLife x i) a a := by
  cases a
  · exact .none
  · exact .some (.refl i _)

theorem sameLife_rel_map {i : Slot} {f : Point → Point} (hf : ∀ pt : Point, pt.SameLife x i (f pt)) (a : Option Point) :
    Option.Rel (Point.SameLife x i) a (a.map f) := by
  cases a
  · exact .none
  · exact .some (hf _)

theorem livesKept_setPoint {s : State} {i : Slot} {pt pt' : Point} (h : s.point i = some pt) (hp : pt.SameLife x i pt') :
    LivesKept x s (s.setPoint i (some pt')) := by
  refine ⟨fun j => ?_, rfl, rfl⟩
  rw [setPoint_point]
  split
  · next hij => subst hij; rw [h]; exact .some hp
  · exact sameLife_rel_refl j _

theorem LivesKept.of_some {s t : State} (h : LivesKept x s t) {i : Slot} {qt : Point} (hq : t.point i = some qt) :
    ∃ pt, s.point i = some pt ∧ pt.SameLife x i qt := by
  have hr := h.slots i
  rw [hq] at hr
  generalize s.point i = x at hr
  cases hr with
  | some hl => exact ⟨_, rfl, hl⟩

theorem LivesKept.to_some {s t : State} (h : LivesKept x s t) {i : Slot} {pt : Point} (hp : s.point i = some pt) :
    ∃ qt, t.point i = some qt ∧ pt.SameLife x i qt := by
  have hr := h.slots i
  rw [hp] at hr
  generalize t.point i = x at hr
  cases hr with
  | some hl => exact ⟨_, rfl, hl⟩

theorem LivesKept.isNone {s t : State} (h : LivesKept x s t) (i : Slot) : (t.point i).isNone = (s.point i).isNone := by
  have hr := h.slots i
  generalize s.point i = x, t.point i = y at hr
  cases hr <;> rfl

/-- A change keeps every life as it was, unless it fills or frees a slot. -/
theorem Change.livesKept {s t : State} (h : Change x s t) :
    LivesKept x s t ∨ Turnover x s t := by
  cases h with
  | aside hu hr => exact .inl ⟨fun i => by rw [hu.point]; exact sameLife_rel_refl _ _, by rw [hu.dir], by rw [hu.dir]⟩
  | edit pt' h he => exact .inl (livesKept_setPoint h ⟨he.name, .inl he.version, .inl he.owner, he.retiring, he.vacant⟩)
  | offer p n hn =>
    refine .inl ⟨fun j => ?_, by simp, by simp⟩
    rw [offer_point]
    split
    · refine sameLife_rel_map (fun pt => ?_) _
      exact .of_eq ⟨rfl, rfl, rfl, rfl⟩ rfl rfl rfl
    · exact sameLife_rel_refl _ _
  | @openUpdate i pt h hs hu hn =>
    obtain ⟨hr, hi, hf⟩ := livesKept_setPoint (x := x) (pt' := { pt with pendingBuf := pt.committed, updateOpen := true }) h
      (.of_eq ⟨rfl, rfl, rfl, rfl⟩ rfl rfl rfl)
    exact .inl ⟨hr, hi, hf⟩
  | closeUpdate i =>
    refine .inl ⟨fun j => ?_, by simp, by simp⟩
    rw [closeUpdate_point]
    split
    · refine sameLife_rel_map (fun pt => ?_) _
      exact .of_eq ⟨rfl, rfl, rfl, rfl⟩ rfl rfl rfl
    · exact sameLife_rel_refl _ _
  | dropUpdates p =>
    refine .inl ⟨fun j => ?_, by simp, by simp⟩
    rw [dropUpdates_point]
    refine sameLife_rel_map (fun pt => ?_) _
    split
    · exact .of_eq ⟨rfl, rfl, rfl, rfl⟩ rfl rfl rfl
    · exact .refl j pt
  | publish hx h hs =>
    exact .inl (livesKept_setPoint h ⟨⟨rfl, rfl, rfl, rfl⟩, .inr hx, .inl rfl, by simp [Point.committedPending, hs],
      by simp [Point.committedPending]⟩)
  | give hx h hs hu q => exact .inl (livesKept_setPoint h ⟨⟨rfl, rfl, rfl, rfl⟩, .inl rfl, .inr hx, .rfl, id⟩)
  | turnover h => exact .inr h

end

end Sys2Proof.Machine
end

section
/-! SUPPORT. The laws of the directory survive each change, and so every step: the value store (R15), the key index (R11), the records (R2),
the open-update counts (R21) and the reference counts (R18). -/

namespace Sys2Proof.Machine

/-! ## The value store -/

theorem heldBy_eq (s : State) (i : Slot) : s.heldBy i = (s.point i).elim 0 Point.granules := by
  unfold State.heldBy
  cases s.point i <;> rfl

theorem Point.SameLife.granules {x : Special} {i : Slot} {pt pt' : Point} (h : pt.SameLife x i pt') : pt'.granules = pt.granules := by
  unfold Point.granules
  simp only [h.retiring, h.name.width]

theorem LivesKept.heldBy {x : Special} {s t : State} (h : LivesKept x s t) (i : Slot) : t.heldBy i = s.heldBy i := by
  rw [heldBy_eq, heldBy_eq]
  cases hp : s.point i with
  | none =>
    have hn := h.isNone i
    rw [hp, Option.isNone_none, Option.isNone_iff_eq_none] at hn
    rw [hn]
  | some pt =>
    obtain ⟨qt, hq, hl⟩ := h.to_some hp
    rw [hq]
    exact hl.granules

theorem StoreAccounted.of_heldBy {s t : State} (h : StoreAccounted s) (hf : t.dir.freeGranules = s.dir.freeGranules)
    (hh : ∀ i, t.heldBy i = s.heldBy i) : StoreAccounted t := by
  have hm : allSlots.map t.heldBy = allSlots.map s.heldBy := List.map_congr_left fun i _ => hh i
  unfold StoreAccounted
  rw [hf, hm]
  exact h

/-- Granules that pass between the free store and one slot stay accounted for. -/
theorem StoreAccounted.of_slot {s t : State} (h : StoreAccounted s) (i : Slot) (hj : ∀ j, j ≠ i → t.heldBy j = s.heldBy j)
    (hi : t.dir.freeGranules + t.heldBy i = s.dir.freeGranules + s.heldBy i) : StoreAccounted t := by
  unfold StoreAccounted at h ⊢
  have := sum_map_add_of_ne allSlots_nodup (mem_allSlots i) hj
  omega

/-- A drained RETIRING point held no granules. -/
theorem drained_granules (x : Option Point) (k : Nat) : (drained x k).elim 0 Point.granules = x.elim 0 Point.granules := by
  unfold drained
  cases x with
  | none => rfl
  | some pt =>
    simp only [Option.bind_some]
    split
    · next h => simp [Point.granules, h.1]
    · rfl

theorem Turnover.storeAccounted {x : Special} {s t : State} (h : Turnover x s t) (hs : StoreAccounted s) : StoreAccounted t := by
  cases h with
  | @fill i p key width readers fresh hx h hk hw hg =>
    refine hs.of_slot i (fun j hj => ?_) ?_
    · rw [heldBy_eq, heldBy_eq]
      simp [State.fillSlot, Ne.symm hj]
    · rw [heldBy_eq, heldBy_eq, h]
      simp [State.fillSlot, newPoint, Point.granules]
      omega
  | @retire i pt hx h hs' hu =>
    obtain ⟨⟨n, hi⟩, hj⟩ := retireSlot_point h
    refine hs.of_slot i (fun j hji => by rw [heldBy_eq, heldBy_eq, hj j hji]) ?_
    have h0 : ((some { pt.retired with refs := n }).filter fun qt => qt.refs != 0).elim 0 Point.granules = 0 := by
      rw [Option.filter_some]
      split <;> rfl
    rw [retireSlot_freeGranules h, heldBy_eq, heldBy_eq, hi, h, h0]
    rfl
  | @release p gone left hx hq =>
    refine hs.of_heldBy (by simp) fun i => ?_
    rw [heldBy_eq, heldBy_eq, releaseRefs_point, drained_granules, setQueue_point]

theorem Change.storeAccounted {x : Special} {s t : State} (h : Change x s t) (hs : StoreAccounted s) : StoreAccounted t := by
  rcases h.livesKept with hl | ht
  · exact hs.of_heldBy hl.freeGranules hl.heldBy
  · exact ht.storeAccounted hs

theorem Untouched.storeAccounted {s t : State} (h : Untouched s t) (hs : StoreAccounted s) : StoreAccounted t :=
  hs.of_heldBy (by rw [h.dir]) fun i => by rw [heldBy_eq, heldBy_eq, h.point]

/-! ## The key index -/

theorem IndexExact.of_livesKept {x : Special} {s t : State} (h : IndexExact s) (hl : LivesKept x s t) : IndexExact t := by
  obtain ⟨hp, he, hi⟩ := h
  refine ⟨hl.index ▸ hp, ?_, ?_⟩
  · intro e hm
    obtain ⟨pt, hpt, hk⟩ := he e (hl.index ▸ hm)
    obtain ⟨qt, hq, hn⟩ := hl.to_some hpt
    exact ⟨qt, hq, hn.name.key.trans hk⟩
  · intro i qt hq
    obtain ⟨pt, hpt, hn⟩ := hl.of_some hq
    rw [hl.index, hn.name.key]
    exact hi i pt hpt

/-- When slots are freed and the index loses just their entries, the index stays exact. -/
theorem IndexExact.of_drained {s t : State} (h : IndexExact s) (hsub : t.dir.index.Sublist s.dir.index)
    (hm : ∀ e, e ∈ t.dir.index ↔ e ∈ s.dir.index ∧ ¬((s.point e.2).isSome ∧ (t.point e.2).isNone))
    (hk : ∀ i qt, t.point i = some qt → ∃ pt, s.point i = some pt ∧ qt.key = pt.key) : IndexExact t := by
  obtain ⟨hp, he, hi⟩ := h
  refine ⟨hp.sublist hsub, ?_, ?_⟩
  · intro e het
    obtain ⟨hes, hne⟩ := (hm e).mp het
    obtain ⟨pt, hpt, hpk⟩ := he e hes
    rw [Option.mem_def] at hpt
    cases hq : t.point e.2 with
    | none => exact (hne ⟨by simp [hpt], by simp [hq]⟩).elim
    | some qt =>
      obtain ⟨pt', hpt', hqk⟩ := hk _ _ hq
      obtain rfl : pt = pt' := by simpa [hpt] using hpt'
      exact ⟨qt, rfl, hqk.trans hpk⟩
  · intro i qt hq
    rw [Option.mem_def] at hq
    obtain ⟨pt, hpt, hqk⟩ := hk i qt hq
    rw [hm, hqk]
    exact ⟨hi i pt hpt, by simp [hq]⟩

theorem indexRemove_sublist (i : Slot) (l : List (Key × Slot)) : (indexRemove i l).Sublist l := List.filter_sublist

theorem lowerRef_index_sublist (s : State) (i : Slot) : (s.lowerRef i).dir.index.Sublist s.dir.index := by
  rw [lowerRef_index]
  split
  · exact .refl _
  · split
    · exact indexRemove_sublist _ _
    · exact .refl _

theorem lowerRefs_index_sublist (l : List Slot) (s : State) : (l.foldl State.lowerRef s).dir.index.Sublist s.dir.index := by
  induction l generalizing s with
  | nil => exact .refl _
  | cons i l ih => exact (ih (s.lowerRef i)).trans (lowerRef_index_sublist s i)

/-- The entries that an insertion in key order leaves before and behind the new one (R12). -/
theorem indexInsert_split (k : Key) (i : Slot) (l : List (Key × Slot)) (hl : l.Pairwise fun a b => a.1 < b.1)
    (hk : ∀ e ∈ l, e.1 ≠ k) :
    ∃ below above, l = below ++ above ∧ indexInsert k i l = below ++ (k, i) :: above ∧
      (∀ e ∈ below, e.1 < k) ∧ ∀ e ∈ above, k < e.1 := by
  induction l with
  | nil => exact ⟨[], [], rfl, rfl, by simp, by simp⟩
  | cons e es ih =>
    obtain ⟨he, hes⟩ := List.pairwise_cons.mp hl
    unfold indexInsert
    split
    · next hlt =>
      refine ⟨[], e :: es, rfl, rfl, by simp, ?_⟩
      intro f hf
      rcases List.mem_cons.mp hf with rfl | hf
      · exact hlt
      · exact BitVec.lt_trans hlt (he f hf)
    · next hge =>
      obtain ⟨below, above, h1, h2, h3, h4⟩ := ih hes fun f hf => hk f (List.mem_cons_of_mem _ hf)
      refine ⟨e :: below, above, by rw [h1]; rfl, by rw [h2]; rfl, ?_, h4⟩
      intro f hf
      rcases List.mem_cons.mp hf with rfl | hf
      · have := hk f List.mem_cons_self; bv_omega
      · exact h3 f hf

theorem lookupKey_eq_none {s : State} {k : Key} : s.lookupKey k = none ↔ ∀ e ∈ s.dir.index, e.1 ≠ k := by
  simp [State.lookupKey]

theorem IndexExact.fillSlot {s : State} (h : IndexExact s) {i : Slot} (hf : s.point i = none) (pt : Point)
    (hk : s.lookupKey pt.key = none) : IndexExact (s.fillSlot i pt) := by
  obtain ⟨hp, he, hi⟩ := h
  obtain ⟨below, above, h1, h2, h3, h4⟩ := indexInsert_split pt.key i s.dir.index hp (lookupKey_eq_none.mp hk)
  have hx : (s.fillSlot i pt).dir.index = below ++ (pt.key, i) :: above := h2
  have hpoint : ∀ j, (s.fillSlot i pt).point j = if i = j then some pt else s.point j := fun j => by simp [State.fillSlot]
  refine ⟨?_, ?_, ?_⟩
  · rw [h1, List.pairwise_append] at hp
    obtain ⟨hb, ha, hba⟩ := hp
    rw [hx, List.pairwise_append, List.pairwise_cons]
    refine ⟨hb, ⟨h4, ha⟩, fun a ham b hbm => ?_⟩
    rcases List.mem_cons.mp hbm with rfl | hbm
    · exact h3 a ham
    · exact hba a ham b hbm
  · intro e hm
    rcases (mem_indexInsert pt.key i e s.dir.index).mp hm with rfl | hm
    · exact ⟨pt, by simp [hpoint], rfl⟩
    · obtain ⟨qt, hq, hqk⟩ := he e hm
      rw [Option.mem_def] at hq
      refine ⟨qt, ?_, hqk⟩
      rw [hpoint, if_neg (by rintro rfl; simp [hf] at hq)]
      exact hq
  · intro j qt hq
    refine (mem_indexInsert pt.key i _ s.dir.index).mpr ?_
    rw [hpoint, Option.mem_def] at hq
    split at hq
    · next hij => cases hq; exact .inl (by rw [hij])
    · exact .inr (hi j qt hq)

theorem drained_eq_some {x : Option Point} {k : Nat} {qt : Point} (h : drained x k = some qt) :
    ∃ pt, x = some pt ∧ qt = { pt with refs := pt.refs - k } ∧ ¬(pt.state = .retiring ∧ 0 < k ∧ pt.refs ≤ k) := by
  unfold drained at h
  obtain ⟨pt, hx, hq⟩ := Option.bind_eq_some_iff.mp h
  split at hq
  · cases hq
  · next hn => exact ⟨pt, hx, (Option.some.inj hq).symm, hn⟩

theorem Turnover.indexExact {x : Special} {s t : State} (h : Turnover x s t) (hs : IndexExact s) : IndexExact t := by
  cases h with
  | fill hx h hk hw hg => exact hs.fillSlot h _ hk
  | @retire i pt hx h hs' hu =>
    obtain ⟨⟨n, hi⟩, hj⟩ := retireSlot_point h
    have hkey : ∀ qt, (s.retireSlot i).point i = some qt → qt.key = pt.key := fun qt hq => by
      rw [hi, Option.filter_eq_some_iff] at hq
      exact Option.some.inj hq.1 ▸ rfl
    refine hs.of_drained ?_ ?_ ?_
    · rw [retireSlot_index h]
      split
      · exact indexRemove_sublist _ _
      · exact .refl _
    · intro e
      rw [retireSlot_index h]
      by_cases hei : e.2 = i
      · cases hn : (s.retireSlot i).point i <;> simp [hei, hn, h]
      · rw [hj _ hei]
        cases hn : (s.retireSlot i).point i <;> cases s.point e.2 <;> simp [hei]
    · intro j qt hq
      by_cases hji : j = i
      · subst hji; exact ⟨pt, h, hkey qt hq⟩
      · exact ⟨qt, hj j hji ▸ hq, rfl⟩
  | @release p gone left hx hq =>
    refine hs.of_drained ?_ ?_ ?_
    · exact lowerRefs_index_sublist _ (s.setQueue p left)
    · intro e; rw [releaseRefs_index, setQueue_point]; rfl
    · intro i qt hqt
      rw [releaseRefs_point, setQueue_point] at hqt
      obtain ⟨pt, hpt, rfl, -⟩ := drained_eq_some hqt
      exact ⟨pt, hpt, rfl⟩

theorem Change.indexExact {x : Special} {s t : State} (h : Change x s t) (hs : IndexExact s) : IndexExact t := by
  rcases h.livesKept with hl | ht
  · exact hs.of_livesKept hl
  · exact ht.indexExact hs

theorem Untouched.livesKept {s t : State} (h : Untouched s t) : LivesKept .plain s t :=
  ⟨fun i => by rw [h.point]; exact sameLife_rel_refl i _, by rw [h.dir], by rw [h.dir]⟩

/-! ## The records -/

theorem nextVersion_ne_zero (v : Version) : nextVersion v ≠ 0 := by
  unfold nextVersion
  split
  · decide
  · next h => bv_omega

theorem Point.sound.committedPending {pt : Point} (h : pt.sound) (hs : pt.state ≠ .retiring) : pt.committedPending.sound := by
  obtain ⟨hc, hp⟩ := h.buffers hs
  exact ⟨h.1, h.2.1, nextVersion_ne_zero _, hp, hc⟩

/-- Soundness does not look at the owner. -/
theorem Point.sound.given {pt : Point} (h : pt.sound) (q : Port) : ({ pt with owner := q, orphaned := false } : Point).sound :=
  h.adopted

theorem Point.sound.closed {pt : Point} (h : pt.sound) : ({ pt with updateOpen := false } : Point).sound := by
  unfold Point.sound at h ⊢
  cases hst : pt.state <;> simp_all

theorem Point.sound.opened {pt : Point} (h : pt.sound) (hs : pt.state ≠ .retiring) :
    ({ pt with pendingBuf := pt.committed, updateOpen := true } : Point).sound :=
  h.of_living hs rfl rfl rfl rfl (h.buffers hs).1

theorem newPoint_sound (p : Port) (key : Key) {width : Nat} (readers : PortSet) (fresh : BitVec 16)
    (hw : 1 ≤ width ∧ width ≤ Config.maxWidth) : (newPoint p key width readers fresh).sound :=
  ⟨hw.1, hw.2, rfl, rfl, List.length_replicate⟩

theorem Point.sound.retired {pt : Point} (h : pt.sound) (hu : pt.updateOpen = false) (n : Nat) :
    ({ pt.retired with refs := n } : Point).sound := ⟨h.1, h.2.1, rfl, rfl, hu, rfl, rfl⟩

theorem RecordsSound.setPoint {s : State} (hs : RecordsSound s) (i : Slot) {pt : Point} (hp : pt.sound) :
    RecordsSound (s.setPoint i (some pt)) := by
  intro j qt hq
  rw [setPoint_point, Option.mem_def] at hq
  split at hq
  · cases hq; exact hp
  · exact hs j qt hq

/-- Records of which each is as it was or the sound image of a sound one stay sound. -/
theorem RecordsSound.of_map {s t : State} (hs : RecordsSound s)
    (h : ∀ i qt, t.point i = some qt → ∃ pt, s.point i = some pt ∧ (pt.sound → qt.sound)) : RecordsSound t := by
  intro i qt hq
  obtain ⟨pt, hp, himp⟩ := h i qt hq
  exact himp (hs i pt hp)

theorem Turnover.recordsSound {x : Special} {s t : State} (h : Turnover x s t) (hs : RecordsSound s) : RecordsSound t := by
  cases h with
  | fill hx h hk hw hg => exact hs.setPoint _ (newPoint_sound _ _ _ _ hw)
  | @retire i pt hx h hs' hu =>
    obtain ⟨⟨n, hi⟩, hj⟩ := retireSlot_point h
    refine hs.of_map fun j qt hq => ?_
    by_cases hji : j = i
    · subst hji
      rw [hi, Option.filter_eq_some_iff] at hq
      exact ⟨pt, h, fun hp => Option.some.inj hq.1 ▸ hp.retired hu n⟩
    · exact ⟨qt, hj j hji ▸ hq, id⟩
  | @release p gone left hx hq =>
    refine hs.of_map fun j qt hq => ?_
    rw [releaseRefs_point, setQueue_point] at hq
    obtain ⟨pt, hpt, rfl, -⟩ := drained_eq_some hq
    exact ⟨pt, hpt, id⟩

theorem Change.recordsSound {x : Special} {s t : State} (h : Change x s t) (hs : RecordsSound s) : RecordsSound t := by
  cases h with
  | aside hu hr => exact fun i pt hp => hs i pt (hu.point i ▸ hp)
  | @edit i pt pt' h he => exact hs.setPoint i (he.sound (hs i pt h))
  | offer p n hn =>
    refine hs.of_map fun j qt hq => ?_
    rw [offer_point] at hq
    split at hq
    · obtain ⟨pt, hpt, rfl⟩ := Option.map_eq_some_iff.mp hq
      exact ⟨pt, hpt, id⟩
    · exact ⟨qt, hq, id⟩
  | @openUpdate i pt h hs' hu hn => exact hs.setPoint i ((hs i pt h).opened hs')
  | closeUpdate i =>
    refine hs.of_map fun j qt hq => ?_
    rw [closeUpdate_point] at hq
    split at hq
    · obtain ⟨pt, hpt, rfl⟩ := Option.map_eq_some_iff.mp hq
      exact ⟨pt, hpt, fun hp => hp.closed⟩
    · exact ⟨qt, hq, id⟩
  | dropUpdates p =>
    refine hs.of_map fun j qt hq => ?_
    rw [dropUpdates_point] at hq
    obtain ⟨pt, hpt, rfl⟩ := Option.map_eq_some_iff.mp hq
    refine ⟨pt, hpt, fun hp => ?_⟩
    split
    · exact hp.closed
    · exact hp
  | @publish i pt hx h hs' => exact hs.setPoint i ((hs i pt h).committedPending hs')
  | @give i pt hx h hs' hu q => exact hs.setPoint i ((hs i pt h).given q)
  | turnover h => exact h.recordsSound hs

/-! ## The open-update counts -/

/-- The slot's point counts among port `p`'s open updates. -/
def opens (p : Port) (x : Option Point) : Bool := x.any fun pt => pt.owner == p && pt.updateOpen

theorem openOwned_eq (s : State) (p : Port) : s.openOwned p = allSlots.countP fun i => opens p (s.point i) := by
  unfold State.openOwned opens
  refine List.countP_congr fun i _ => ?_
  cases s.point i <;> simp

/-- The open updates after a change to one slot. -/
theorem openOwned_of_slot {s t : State} (i : Slot) (hj : ∀ j, j ≠ i → t.point j = s.point j) (p : Port) :
    t.openOwned p + (opens p (s.point i)).toNat = s.openOwned p + (opens p (t.point i)).toNat := by
  rw [openOwned_eq, openOwned_eq]
  exact countP_add_of_ne (f := fun i => opens p (s.point i)) (g := fun i => opens p (t.point i)) allSlots_nodup (mem_allSlots i)
    fun j hji => congrArg (opens p) (hj j hji)

theorem UpdatesCounted.of_opens {s t : State} (hs : UpdatesCounted s) (hn : ∀ p, t.openUpdates p = s.openUpdates p)
    (ho : ∀ i p, opens p (t.point i) = opens p (s.point i))
    (hr : ∀ i, ∀ pt ∈ t.point i, pt.state = .retiring → pt.updateOpen = false) : UpdatesCounted t := by
  refine ⟨fun p => ?_, hr⟩
  have h : t.openOwned p = s.openOwned p := by
    rw [openOwned_eq, openOwned_eq]
    exact List.countP_congr fun i _ => by rw [ho]
  rw [hn, h]
  exact hs.1 p

/-- A record put in place of one with the same owner and update flag. -/
theorem UpdatesCounted.setPoint {s : State} (hs : UpdatesCounted s) {i : Slot} {pt pt' : Point} (h : s.point i = some pt)
    (ho : ∀ p, opens p (some pt') = opens p (some pt)) (hr : pt'.state = .retiring → pt'.updateOpen = false) :
    UpdatesCounted (s.setPoint i (some pt')) := by
  refine hs.of_opens (fun _ => rfl) (fun j p => ?_) fun j qt hq => ?_
  · rw [setPoint_point]
    split
    · next hij => rw [← hij, h, ho]
    · rfl
  · rw [setPoint_point, Option.mem_def] at hq
    split at hq
    · cases hq; exact hr
    · exact hs.2 j qt hq

theorem Turnover.updatesCounted {x : Special} {s t : State} (h : Turnover x s t) (hs : UpdatesCounted s) : UpdatesCounted t := by
  cases h with
  | @fill i p key width readers fresh hx h hk hw hg =>
    have hp : ∀ j, (s.fillSlot i (newPoint p key width readers fresh)).point j =
        if i = j then some (newPoint p key width readers fresh) else s.point j := fun j => by simp [State.fillSlot]
    refine hs.of_opens (fun _ => rfl) (fun j q => ?_) fun j qt hq => ?_
    · rw [hp]
      split
      · next hij => rw [← hij, h]; simp [opens, newPoint]
      · rfl
    · rw [hp, Option.mem_def] at hq
      split at hq
      · cases hq; simp [newPoint]
      · exact hs.2 j qt hq
  | @retire i pt hx h hs' hu =>
    obtain ⟨⟨n, hi⟩, hj⟩ := retireSlot_point h
    refine hs.of_opens (fun q => retireSlot_openUpdates h q) (fun j q => ?_) fun j qt hq => ?_
    · by_cases hji : j = i
      · subst hji
        rw [hi, h, Option.filter_some]
        split <;> simp [opens, Point.retired, hu]
      · rw [hj j hji]
    · by_cases hji : j = i
      · subst hji
        rw [hi, Option.mem_def, Option.filter_eq_some_iff] at hq
        exact fun _ => Option.some.inj hq.1 ▸ hu
      · exact hs.2 j qt (hj j hji ▸ hq)
  | @release p gone left hx hq =>
    refine hs.of_opens (by simp) (fun j q => ?_) fun j qt hq => ?_
    · rw [releaseRefs_point, setQueue_point, drained]
      cases hpt : s.point j with
      | none => rfl
      | some pt =>
        rw [Option.bind_some]
        split
        · next hd => simp [opens, hs.2 j pt hpt hd.1]
        · rfl
    · rw [releaseRefs_point, setQueue_point, Option.mem_def] at hq
      obtain ⟨pt, hpt, rfl, -⟩ := drained_eq_some hq
      exact hs.2 j pt hpt

/-- Closing an update takes it from the count and from the updates open alike (R33). -/
theorem UpdatesCounted.closeUpdate {s : State} (hs : UpdatesCounted s) (i : Slot) : UpdatesCounted (s.closeUpdate i) := by
  refine ⟨fun p => ?_, fun j qt hq => ?_⟩
  · have hn := openOwned_of_slot (s := s) (t := s.closeUpdate i) i
      (fun j hji => by rw [closeUpdate_point, if_neg (Ne.symm hji)]) p
    obtain ⟨hc, h4⟩ := hs.1 p
    rw [closeUpdate_point, if_pos rfl] at hn
    rw [closeUpdate_openUpdates]
    cases hp : s.point i with
    | none => simp only [hp, opens] at hn ⊢; simp at hn; omega
    | some pt =>
      simp only [hp, opens, Option.map_some, Option.any_some, Bool.and_false, Bool.toNat_false, Nat.add_zero] at hn ⊢
      by_cases ho : pt.updateOpen ∧ pt.owner = p
      · rw [if_pos ho]
        simp only [ho.1, ho.2, beq_self_eq_true, Bool.and_self, Bool.toNat_true] at hn
        omega
      · rw [if_neg ho]
        have : (pt.owner == p && pt.updateOpen) = false := by
          rw [← Bool.not_eq_true]; simpa [and_comm] using ho
        rw [this, Bool.toNat_false] at hn
        omega
  · rw [closeUpdate_point, Option.mem_def] at hq
    split at hq
    · obtain ⟨pt, -, rfl⟩ := Option.map_eq_some_iff.mp hq
      exact fun _ => rfl
    · exact hs.2 j qt hq

/-- Opening an update adds it to the count and to the updates open alike (R35). -/
theorem UpdatesCounted.openUpdate {s : State} (hs : UpdatesCounted s) {i : Slot} {pt : Point} (h : s.point i = some pt)
    (hst : pt.state ≠ .retiring) (hu : pt.updateOpen = false) (hn : s.openUpdates pt.owner < Config.maxOpenUpdates) :
    UpdatesCounted ((s.setPoint i (some { pt with pendingBuf := pt.committed, updateOpen := true })).setOpenUpdates pt.owner
      (s.openUpdates pt.owner + 1)) := by
  set t := (s.setPoint i (some { pt with pendingBuf := pt.committed, updateOpen := true })).setOpenUpdates pt.owner
    (s.openUpdates pt.owner + 1) with ht
  have hp : ∀ j, t.point j = if i = j then some { pt with pendingBuf := pt.committed, updateOpen := true } else s.point j :=
    fun j => by simp [ht]
  refine ⟨fun p => ?_, fun j qt hq => ?_⟩
  · have ho := openOwned_of_slot (s := s) (t := t) i (fun j hji => by rw [hp, if_neg (Ne.symm hji)]) p
    obtain ⟨hc, h4⟩ := hs.1 p
    rw [hp, if_pos rfl, h] at ho
    have hto : t.openUpdates p = if pt.owner = p then s.openUpdates pt.owner + 1 else s.openUpdates p := by simp [ht]
    rw [hto]
    by_cases hop : pt.owner = p
    · subst hop
      simp only [opens, Option.any_some, hu, beq_self_eq_true, Bool.and_false, Bool.and_true, Bool.toNat_false, Bool.toNat_true] at ho
      rw [if_pos rfl]
      omega
    · simp only [opens, Option.any_some, beq_eq_false_iff_ne.mpr hop, Bool.false_and, Bool.toNat_false] at ho
      rw [if_neg hop]
      omega
  · rw [hp, Option.mem_def] at hq
    split at hq
    · cases hq
      exact fun hr => (hst hr).elim
    · exact hs.2 j qt hq

/-- A severed port has no update open and its count is 0 (R138, step 2). -/
theorem UpdatesCounted.dropUpdates {s : State} (hs : UpdatesCounted s) (p : Port) : UpdatesCounted (s.dropUpdates p) := by
  have ho : ∀ i q, opens q ((s.dropUpdates p).point i) = (q != p && opens q (s.point i)) := fun i q => by
    rw [dropUpdates_point]
    cases s.point i with
    | none => simp [opens]
    | some pt =>
      by_cases hop : pt.owner = p
      · by_cases hqp : p = q <;> simp [opens, hop, hqp, eq_comm (a := q)]
      · by_cases hqp : q = p <;> simp [opens, hop, hqp]
  refine ⟨fun q => ?_, fun i qt hq => ?_⟩
  · rw [dropUpdates_openUpdates, openOwned_eq]
    simp only [ho]
    by_cases hqp : q = p
    · subst hqp; simp [Config.maxOpenUpdates]
    · rw [if_neg (Ne.symm hqp), show (q != p) = true by simpa using hqp]
      simp only [Bool.true_and, ← openOwned_eq]
      exact hs.1 q
  · rw [dropUpdates_point, Option.mem_def] at hq
    obtain ⟨pt, hpt, rfl⟩ := Option.map_eq_some_iff.mp hq
    split
    · exact fun _ => rfl
    · exact hs.2 i pt hpt

theorem Change.updatesCounted {x : Special} {s t : State} (h : Change x s t) (hs : UpdatesCounted s) : UpdatesCounted t := by
  cases h with
  | aside hu hr =>
    refine hs.of_opens (fun p => by unfold State.openUpdates; rw [hu.dir]) (fun i p => by rw [hu.point]) fun i pt hp => ?_
    exact hs.2 i pt (hu.point i ▸ hp)
  | @edit i pt pt' h he =>
    refine hs.setPoint h (fun p => by simp [opens, he.owner, he.updateOpen]) fun hr => ?_
    rw [he.updateOpen]
    exact hs.2 i pt h (he.retiring.mp hr)
  | offer p n hn =>
    refine hs.of_opens (by simp) (fun j q => ?_) fun j qt hq => ?_
    · rw [offer_point]
      split
      · cases s.point j <;> rfl
      · rfl
    · rw [offer_point, Option.mem_def] at hq
      split at hq
      · obtain ⟨pt, hpt, rfl⟩ := Option.map_eq_some_iff.mp hq
        exact hs.2 j pt hpt
      · exact hs.2 j qt hq
  | openUpdate h hs' hu hn => exact hs.openUpdate h hs' hu hn
  | closeUpdate i => exact hs.closeUpdate i
  | dropUpdates p => exact hs.dropUpdates p
  | publish hx h hs' => exact hs.setPoint h (fun p => rfl) (by simp [Point.committedPending])
  | give hx h hs' hu q => exact hs.setPoint h (fun p => by simp [opens, hu]) fun _ => hu
  | turnover h => exact h.updatesCounted hs

/-! ## The reference counts -/

/-- Each count is the number of queued notices that name the slot; none names a FREE slot. -/
def RefsCounted (s : State) : Prop := ∀ i, s.namings i = (s.point i).elim 0 Point.refs

theorem refsExact_iff {s : State} :
    RefsExact s ↔ RefsCounted s ∧
      ∀ i pt, s.point i = some pt → pt.state = .retiring → pt.refs ≠ 0 := by
  unfold RefsExact
  constructor
  · intro h
    refine ⟨fun i => ?_, fun i pt hp => ?_⟩
    · have hi := h i
      cases hp : s.point i with
      | none => simpa [hp] using hi
      | some pt => simp only [hp] at hi; exact hi.1.symm
    · have hi := h i
      simp only [hp] at hi
      exact hi.2
  · rintro ⟨hc, hd⟩ i
    have hi := hc i
    cases hp : s.point i with
    | none => simpa [hp] using hi
    | some pt =>
      rw [hp] at hi
      exact ⟨hi.symm, hd i pt hp⟩

theorem namings_congr {s t : State} (h : ∀ q, t.queue q = s.queue q) (i : Slot) : t.namings i = s.namings i := by
  unfold State.namings
  simp only [h]

/-- The namings after a change to one queue. -/
theorem namings_of_queue {s t : State} (p : Port) (h : ∀ q, q ≠ p → t.queue q = s.queue q) (i : Slot) :
    t.namings i + namedIn (s.queue p) i = s.namings i + namedIn (t.queue p) i :=
  sum_map_add_of_ne (f := fun q => namedIn (s.queue q) i) (g := fun q => namedIn (t.queue q) i) allPorts_nodup (mem_allPorts p)
    fun q hq => congrArg (fun ns => namedIn ns i) (h q hq)

/-- An entry that has absorbed a notice names the slot it named (R77). -/
theorem absorb_slot {e n m : Notice} (h : e.absorb n = some m) : m.slot? = e.slot? := by
  cases (absorb_iff_merges e n m).mp h <;> rfl

theorem coalesce_namedIn {n : Notice} {q q' : List Notice} (h : coalesce n q = some q') (i : Slot) : namedIn q' i = namedIn q i := by
  induction q generalizing q' with
  | nil => cases h
  | cons e es ih =>
    unfold coalesce at h
    split at h
    · next m hm =>
      cases h
      simp [namedIn, List.countP_cons, absorb_slot hm]
    · obtain ⟨r, hr, rfl⟩ := Option.map_eq_some_iff.mp h
      have := ih hr
      unfold namedIn at this ⊢
      rw [List.countP_cons, List.countP_cons, this]

/-- An offer adds one entry to those that name a slot exactly when the notice is appended and names it (R77, R78). -/
theorem offerQueue_namedIn (q : List Notice) (n : Notice) (i : Slot) :
    namedIn (offerQueue q n).1 i =
      namedIn q i + if (offerQueue q n).2 = true ∧ n.slot? = some i then 1 else 0 := by
  unfold offerQueue
  split
  · next q' h => simp [coalesce_namedIn h]
  · split
    · simp [namedIn, List.countP_append]
    · split
      · simp [namedIn, List.countP_append, Notice.slot?]
      · simp

theorem RefsCounted.offer {s : State} (h : RefsCounted s) (p : Port) (n : Notice)
    (hn : ∀ i, n.slot? = some i → (s.point i).isSome) : RefsCounted (s.offer p n) := by
  intro i
  have hq := namings_of_queue (s := s) (t := s.offer p n) p (fun q hqp => by simp [Ne.symm hqp]) i
  have hi := h i
  rw [offer_point]
  cases hm : s.mute p with
  | true => simp_all
  | false =>
    simp only [offer_queue, hm, and_self, if_true, offerQueue_namedIn] at hq
    by_cases ha : (offerQueue (s.queue p) n).2 = true ∧ n.slot? = some i
    · obtain ⟨pt, hpt⟩ := Option.isSome_iff_exists.mp (hn i ha.2)
      simp only [ha, and_self, if_true, hpt, Option.map_some, Option.elim_some] at hq hi ⊢
      omega
    · simp only [ha, if_false, and_false] at hq ⊢
      omega

theorem RefsCounted.of_refs {s t : State} (h : RefsCounted s) (hq : ∀ q, t.queue q = s.queue q)
    (hp : ∀ i, (t.point i).elim 0 Point.refs = (s.point i).elim 0 Point.refs) : RefsCounted t := fun i => by
  rw [namings_congr hq, h i, hp]

theorem RefsCounted.route {s : State} (h : RefsCounted s) {i : Slot} (k : WatchKind) (mk : FilterNo → Notice)
    (hmk : ∀ f, (mk f).slot? = some i) (hi : (s.point i).isSome) : RefsCounted (s.route i k mk) := by
  suffices hf : ∀ (l : List Port) (s : State), RefsCounted s → (s.point i).isSome →
      RefsCounted (l.foldl (State.routeTo i k mk) s) from hf allPorts s h hi
  intro l
  induction l with
  | nil => exact fun s hs _ => hs
  | cons p l ih =>
    intro s hs hi
    refine ih _ ?_ ((routeTo_point_isSome i k mk s p i).trans hi)
    unfold State.routeTo
    split
    · exact hs
    · split
      · exact hs
      · refine hs.offer _ _ fun j hj => ?_
        rw [hmk, Option.some.injEq] at hj
        exact hj ▸ hi

theorem RefsExact.of_slots {s t : State} (h : RefsExact s) (hq : ∀ q, t.queue q = s.queue q)
    (hp : ∀ i, (t.point i).elim 0 Point.refs = (s.point i).elim 0 Point.refs)
    (hr : ∀ i pt, t.point i = some pt → pt.state = .retiring → ∃ pt', s.point i = some pt' ∧ pt'.state = .retiring) :
    RefsExact t := by
  obtain ⟨hc, hd⟩ := refsExact_iff.mp h
  refine refsExact_iff.mpr ⟨RefsCounted.of_refs hc hq hp, fun i pt hpt hs => ?_⟩
  obtain ⟨pt', hpt', hs'⟩ := hr i pt hpt hs
  have hi := hp i
  rw [hpt, hpt'] at hi
  exact fun h0 => hd i pt' hpt' hs' (hi.symm.trans h0)

/-- A record put in place of one with the same count. -/
theorem RefsExact.setPoint {s : State} (h : RefsExact s) {i : Slot} {pt pt' : Point} (hp : s.point i = some pt)
    (hn : pt'.refs = pt.refs) (hr : pt'.state = .retiring → pt.state = .retiring) : RefsExact (s.setPoint i (some pt')) := by
  refine h.of_slots (fun q => by simp) (fun j => ?_) fun j qt hq hs => ?_
  · rw [setPoint_point]
    split
    · next hij => rw [← hij, hp]; exact hn
    · rfl
  · rw [setPoint_point] at hq
    split at hq
    · next hij => cases hq; exact ⟨pt, hij ▸ hp, hr hs⟩
    · exact ⟨qt, hq, hs⟩

theorem RefsExact.release {s : State} (h : RefsExact s) {p : Port} {gone left : List Notice} (hq : s.queue p = gone ++ left) :
    RefsExact ((s.setQueue p left).releaseRefs gone) := by
  obtain ⟨hc, hd⟩ := refsExact_iff.mp h
  refine refsExact_iff.mpr ⟨fun i => ?_, fun i qt hqt hs => ?_⟩
  · have hn := namings_of_queue (s := s) (t := (s.setQueue p left).releaseRefs gone) p (fun q hqp => by simp [Ne.symm hqp]) i
    have hg : namedIn (s.queue p) i = namedIn gone i + namedIn left i := by rw [hq]; exact List.countP_append
    rw [releaseRefs_queue, setQueue_queue, if_pos rfl] at hn
    have hi := hc i
    rw [releaseRefs_point, setQueue_point, drained]
    cases hp : s.point i with
    | none => simp only [hp, Option.elim_none, Option.bind_none] at hi ⊢; omega
    | some pt =>
      simp only [hp, Option.elim_some, Option.bind_some] at hi ⊢
      split <;> simp only [Option.elim_none, Option.elim_some] <;> omega
  · rw [releaseRefs_point, setQueue_point] at hqt
    obtain ⟨pt, hpt, rfl, hnd⟩ := drained_eq_some hqt
    have := hd i pt hpt hs
    simp only at hs ⊢
    simp only [hs, true_and, not_and, not_le] at hnd
    omega

theorem RefsExact.retireSlot {s : State} (h : RefsExact s) {i : Slot} {pt : Point} (hp : s.point i = some pt) :
    RefsExact (s.retireSlot i) := by
  obtain ⟨hc, hd⟩ := refsExact_iff.mp h
  have hr : (s.retirePoint i).point i = some pt.retired := by rw [retirePoint_eq hp]; simp
  have h1 : RefsCounted (s.retirePoint i) := by
    refine RefsCounted.of_refs hc (fun q => by simp [retirePoint_eq hp]) fun j => ?_
    rw [retirePoint_eq hp, disarm_point, setFreeGranules_point, setPoint_point]
    split
    · next hij => rw [← hij, hp]; rfl
    · rfl
  have h2 : RefsCounted ((s.retirePoint i).routeRetired i) := by
    unfold State.routeRetired
    simp only [hr]
    exact h1.route _ _ (fun _ => rfl) (by rw [hr]; rfl)
  refine refsExact_iff.mpr ⟨?_, fun j qt hq hs => ?_⟩
  · refine RefsCounted.of_refs h2 (fun q => freeIfUnnamed_queue _ _ _) fun j => ?_
    unfold State.retireSlot
    rw [freeIfUnnamed_point]
    split
    · cases ((s.retirePoint i).routeRetired i).point j with
      | none => rfl
      | some qt => by_cases h0 : qt.refs = 0 <;> simp [Option.filter, h0]
    · rfl
  · obtain ⟨⟨n, hi⟩, hj⟩ := retireSlot_point hp
    by_cases hji : j = i
    · subst hji
      rw [hi, Option.filter_eq_some_iff] at hq
      simpa using hq.2
    · exact hd j qt (hj j hji ▸ hq) hs

theorem Turnover.refsExact {x : Special} {s t : State} (h : Turnover x s t) (hs : RefsExact s) : RefsExact t := by
  cases h with
  | @fill i p key width readers fresh hx h hk hw hg =>
    have hp : ∀ j, (s.fillSlot i (newPoint p key width readers fresh)).point j =
        if i = j then some (newPoint p key width readers fresh) else s.point j := fun j => by simp [State.fillSlot]
    refine hs.of_slots (fun q => by simp [State.fillSlot]) (fun j => ?_) fun j qt hq hs' => ?_
    · rw [hp]
      split
      · next hij => rw [← hij, h]; rfl
      · rfl
    · rw [hp] at hq
      split at hq
      · cases hq; cases hs'
      · exact ⟨qt, hq, hs'⟩
  | retire hx h hs' hu => exact hs.retireSlot h
  | release hx hq => exact hs.release hq

theorem Change.refsExact {x : Special} {s t : State} (h : Change x s t) (hs : RefsExact s) : RefsExact t := by
  cases h with
  | aside hu hr =>
    exact hs.of_slots hu.queue (fun i => by rw [hu.point]) fun i pt hp hst => ⟨pt, hu.point i ▸ hp, hst⟩
  | edit pt' h he => exact hs.setPoint h he.refs he.retiring.mp
  | offer p n hn =>
    obtain ⟨hc, hd⟩ := refsExact_iff.mp hs
    refine refsExact_iff.mpr ⟨RefsCounted.offer hc p n hn, fun i qt hq hst => ?_⟩
    rw [offer_point] at hq
    split at hq
    · obtain ⟨pt, hpt, rfl⟩ := Option.map_eq_some_iff.mp hq
      simp
    · exact hd i qt hq hst
  | @openUpdate i pt h hs' hu hn =>
    exact (hs.setPoint (pt' := { pt with pendingBuf := pt.committed, updateOpen := true }) h rfl id).of_slots
      (fun _ => rfl) (fun _ => rfl) fun i pt hp hst => ⟨pt, hp, hst⟩
  | closeUpdate i =>
    refine hs.of_slots (fun q => by simp) (fun j => ?_) fun j qt hq hst => ?_
    · rw [closeUpdate_point]
      split
      · cases s.point j <;> rfl
      · rfl
    · rw [closeUpdate_point] at hq
      split at hq
      · obtain ⟨pt, hpt, rfl⟩ := Option.map_eq_some_iff.mp hq
        exact ⟨pt, hpt, hst⟩
      · exact ⟨qt, hq, hst⟩
  | dropUpdates p =>
    refine hs.of_slots (fun q => by simp) (fun j => ?_) fun j qt hq hst => ?_
    · rw [dropUpdates_point]
      cases s.point j with
      | none => rfl
      | some pt => by_cases ho : pt.owner = p <;> simp [ho]
    · rw [dropUpdates_point] at hq
      obtain ⟨pt, hpt, rfl⟩ := Option.map_eq_some_iff.mp hq
      refine ⟨pt, hpt, ?_⟩
      split at hst <;> exact hst
  | publish hx h hs' => exact hs.setPoint h rfl (by simp [Point.committedPending])
  | give hx h hs' hu q => exact hs.setPoint h rfl id
  | turnover h => exact h.refsExact hs

end Sys2Proof.Machine
end

section
/-! SUPPORT. The laws of the directory at every step, and the law after reset they begin with. -/

namespace Sys2Proof.Machine

/-! ## The part right after reset (R29, R89, R109, R146, R148) -/

theorem storeAccounted_reset : StoreAccounted State.reset := by
  have h : ∀ l : List Slot, (l.map State.reset.heldBy).sum = 0 := fun l => by
    induction l with
    | nil => rfl
    | cons i l ih => rw [List.map_cons, List.sum_cons, ih, heldBy_eq, reset_point]; rfl
  unfold StoreAccounted
  rw [h]
  rfl

theorem indexExact_reset : IndexExact State.reset := by
  unfold IndexExact
  exact ⟨.nil, fun e he => (List.not_mem_nil he).elim, fun i pt hp => by simp at hp⟩

theorem namings_reset (i : Slot) : State.reset.namings i = 0 := by
  simp [State.namings, allPorts]

theorem refsExact_reset : RefsExact State.reset :=
  refsExact_iff.mpr ⟨fun i => by rw [namings_reset, reset_point]; rfl, fun i pt hp => by simp at hp⟩

theorem recordsSound_reset : RecordsSound State.reset := fun i pt hp => by simp at hp

theorem updatesCounted_reset : UpdatesCounted State.reset := by
  refine ⟨fun p => ?_, fun i pt hp => by simp at hp⟩
  rw [reset_openUpdates, openOwned_eq]
  simp [opens]

theorem deadlinesExact_reset : DeadlinesExact State.reset := by
  have hd : State.reset.timer.deadlines = [] := rfl
  exact ⟨by rw [hd]; exact .nil, fun i => by simp [State.armed, hd], fun i => by simp [State.armed, hd], fun i pt hp => by simp at hp⟩

theorem timerSound_reset : TimerSound State.reset :=
  ⟨.nil, .nil, fun d hd => (by cases hd), by decide, by decide, by decide⟩

theorem queuesSound_reset : QueuesSound State.reset := fun p => by
  rw [reset_queue]
  exact ⟨by decide, by decide, .nil, .nil⟩

theorem heldRequest_reset : State.reset.heldRequest = none := by decide

theorem standingSound_reset : StandingSound State.reset := by
  unfold StandingSound
  have hr : State.reset.standing.request = none := rfl
  refine ⟨fun p => ?_, by simp [hr], by simp [hr], by simp [hr], fun _ => heldRequest_reset, fun _ => rfl⟩
  rw [reset_record]
  cases p == State.reset.supervisor <;> simp [StandingRec.sound, StandingRec.reset, Standing.ofScore]

theorem reset_mute (p : Port) : State.reset.mute p = false := by
  unfold State.mute
  rw [reset_record]
  rfl

theorem linkSound_reset : LinkSound State.reset := by
  unfold LinkSound
  have hr : State.reset.standing.request = none := rfl
  refine ⟨fun p => ?_, fun p h => ?_, by simp [hr], fun _ p => ⟨.high, ?_, .inl rfl⟩⟩
  · rw [reset_engine, reset_mute]
    simp [Engine.sound, Engine.reset]
  · rw [reset_engine] at h; cases h
  · rw [reset_engine]; rfl

theorem orphansExact_reset : OrphansExact State.reset := fun i pt hp => by simp at hp

/-- Settles O48: every law, one by one, of a part with no points, no notices, no deadlines and no requests. -/
theorem resetSound : Obligations.ResetSound :=
  ⟨storeAccounted_reset, indexExact_reset, refsExact_reset, recordsSound_reset, updatesCounted_reset, deadlinesExact_reset,
    timerSound_reset, queuesSound_reset, standingSound_reset, linkSound_reset, orphansExact_reset⟩

/-- Settles O1: a step looks at the front of the queue and carries the command out. -/
theorem stepRunsFrontCommand : Obligations.StepRunsFrontCommand := by
  intro c rest s h
  unfold step
  rw [h]

/-! ## Every step -/

/-- Settles O49: the law survives each change (`Change.storeAccounted`), and so every step. -/
theorem storeAlwaysAccounted : Obligations.StoreAlwaysAccounted := fun _ _ =>
  step_keeps storeAccounted_reset Untouched.storeAccounted Change.storeAccounted

/-- Two entries of an exact index that name one slot are one entry. -/
theorem IndexExact.eq_of_slot {s : State} (h : IndexExact s) {e f : Key × Slot} (he : e ∈ s.dir.index) (hf : f ∈ s.dir.index)
    (hs : e.2 = f.2) : e = f := by
  obtain ⟨-, hp, -⟩ := h
  obtain ⟨pt, hpt, hek⟩ := hp e he
  obtain ⟨qt, hqt, hfk⟩ := hp f hf
  rw [Option.mem_def, hs] at hpt
  obtain rfl : pt = qt := Option.some.inj (hpt.symm.trans hqt)
  exact Prod.ext (hek.symm.trans hfk) hs

/-- The slots of an exact index are the slots that are not FREE, each once. -/
theorem IndexExact.slots_perm {s : State} (h : IndexExact s) :
    (s.dir.index.map (·.2)).Perm (allSlots.filter fun i => (s.point i).isSome) := by
  have hnodup : s.dir.index.Nodup := h.1.imp fun {a b} hab hc => by
    rw [hc] at hab
    exact absurd hab (BitVec.lt_irrefl _)
  refine (List.perm_ext_iff_of_nodup (hnodup.map_on fun e he f hf => h.eq_of_slot he hf) (allSlots_nodup.filter _)).mpr fun i => ?_
  simp only [List.mem_map, List.mem_filter, mem_allSlots, true_and]
  constructor
  · rintro ⟨e, he, rfl⟩
    obtain ⟨pt, hpt, -⟩ := h.2.1 e he
    rw [Option.mem_def.mp hpt]
    rfl
  · intro hi
    obtain ⟨pt, hpt⟩ := Option.isSome_iff_exists.mp hi
    exact ⟨(pt.key, i), h.2.2 i pt hpt, rfl⟩

theorem IndexExact.length_add_freeSlots {s : State} (h : IndexExact s) : s.dir.index.length + s.freeSlots = 256 := by
  have hl := h.slots_perm.length_eq
  rw [List.length_map, ← List.countP_eq_length_filter] at hl
  have hn : allSlots.length = 256 := List.length_finRange
  have hc := List.length_eq_countP_add_countP (fun i => (s.point i).isSome) (l := allSlots)
  have hf : s.freeSlots = allSlots.countP fun i => ¬(s.point i).isSome = true := by
    unfold State.freeSlots
    exact List.countP_congr fun i _ => by simp
  omega

/-- Settles O50: the law survives each change, and an exact index lists the slots that are not FREE. -/
theorem indexAlwaysExact : Obligations.IndexAlwaysExact :=
  ⟨fun _ _ => step_keeps indexExact_reset (fun hu hs => hs.of_livesKept hu.livesKept) Change.indexExact,
    fun _ => IndexExact.length_add_freeSlots⟩

/-- A notice that names a slot is of one of the first six kinds, and absorbs another of its kind that names the slot (R77). -/
theorem absorb_of_kindNo {a b : Notice} {i : Slot} (ha : a.slot? = some i) (hb : b.slot? = some i) (hk : a.kindNo = b.kindNo) :
    a.absorb b ≠ none := by
  cases a <;> cases b <;> simp_all [Notice.kindNo, Notice.slot?, Notice.absorb]

theorem kindNo_of_slot {a : Notice} {i : Slot} (ha : a.slot? = some i) : a.kindNo - 1 < 6 ∧ a.kindNo ≠ 0 := by
  cases a <;> simp_all [Notice.kindNo, Notice.slot?]

/-- At most six entries of a sound queue name one slot: one of each kind that names a slot (R77). -/
theorem QueueSound.namedIn_le {q : List Notice} (h : QueueSound q) (i : Slot) : namedIn q i ≤ 6 := by
  obtain ⟨-, -, -, hp⟩ := h
  have hslot : ∀ a ∈ q.filter fun n => n.slot? == some i, a.slot? = some i := fun a ha => by simpa using (List.mem_filter.mp ha).2
  have hnodup : ((q.filter fun n => n.slot? == some i).map fun a => a.kindNo - 1).Nodup := by
    refine List.pairwise_map.mpr ((hp.filter _).imp_of_mem fun {a b} ha hb hab hk => ?_)
    have h1 := kindNo_of_slot (hslot a ha)
    have h2 := kindNo_of_slot (hslot b hb)
    exact absorb_of_kindNo (hslot a ha) (hslot b hb) (by omega) hab
  have hsub : ((q.filter fun n => n.slot? == some i).map fun a => a.kindNo - 1) ⊆ List.range 6 := fun k hk => by
    obtain ⟨a, ha, rfl⟩ := List.mem_map.mp hk
    exact List.mem_range.mpr (kindNo_of_slot (hslot a ha)).1
  have hle := (hnodup.subperm hsub).length_le
  rwa [List.length_map, List.length_range, ← List.countP_eq_length_filter] at hle

theorem QueuesSound.namings_le {s : State} (h : QueuesSound s) (i : Slot) : s.namings i ≤ 24 := by
  have hp : ∀ p, namedIn (s.queue p) i ≤ 6 := fun p => (h p).namedIn_le i
  have h0 := hp 0
  have h1 := hp 1
  have h2 := hp 2
  have h3 := hp 3
  simp only [namedIn] at h0 h1 h2 h3
  simp only [State.namings, allPorts, List.map_cons, List.map_nil, List.sum_cons, List.sum_nil]
  omega

theorem Untouched.refsExact {s t : State} (h : Untouched s t) (hs : RefsExact s) : RefsExact t :=
  hs.of_slots h.queue (fun i => by rw [h.point]) fun i pt hp hst => ⟨pt, h.point i ▸ hp, hst⟩

/-- Settles O51: the law survives each change, and each of the four queues names a slot at most six times. -/
theorem refsAlwaysExact : Obligations.RefsAlwaysExact := by
  refine ⟨fun _ _ => step_keeps refsExact_reset Untouched.refsExact Change.refsExact, fun s hs hq i pt hp => ?_⟩
  have hn := (refsExact_iff.mp hs).1 i
  rw [hp, Option.elim_some] at hn
  exact hn ▸ hq.namings_le i

/-- Settles O52: the law survives each change, and so every step. -/
theorem recordsAlwaysSound : Obligations.RecordsAlwaysSound := fun _ _ =>
  step_keeps recordsSound_reset (fun hu hs i pt hp => hs i pt (hu.point i ▸ hp)) Change.recordsSound

theorem Untouched.updatesCounted {s t : State} (h : Untouched s t) (hs : UpdatesCounted s) : UpdatesCounted t :=
  hs.of_opens (fun p => by unfold State.openUpdates; rw [h.dir]) (fun i p => by rw [h.point]) fun i pt hp =>
    hs.2 i pt (h.point i ▸ hp)

/-- Settles O53: the law survives each change, and so every step. -/
theorem updatesAlwaysCounted : Obligations.UpdatesAlwaysCounted := fun _ _ =>
  step_keeps updatesCounted_reset Untouched.updatesCounted Change.updatesCounted

end Sys2Proof.Machine
end

section
/-! SUPPORT. What a command can do to the point in one slot, followed through the chain of its changes. -/

namespace Sys2Proof.Machine

/-- What a command whose special change is `x` may make of a point in slot `i` that is still there after it. -/
structure Point.Follows (x : Special) (i : Slot) (pt qt : Point) : Prop where
  name : pt.SameName qt
  version : qt.version = pt.version ∨ x = .publish pt.owner i
  owner : qt.owner = pt.owner ∨ x = .give i
  stays : pt.state = .retiring → qt.state = .retiring
  retired : qt.state = .retiring → pt.state = .retiring ∨ x = .retire i
  vacant : qt.state = .vacant → pt.state = .vacant

/-- What a command whose special change is `x` may make of slot `i`. -/
structure SlotFollows (x : Special) (i : Slot) (a b : Option Point) : Prop where
  filled : a = none → b = none ∨ x = .create
  kept : ∀ pt qt, a = some pt → b = some qt → pt.Follows x i qt
  freed : ∀ pt, a = some pt → b = none → (pt.state ≠ .retiring ∧ x = .retire i) ∨ (pt.state = .retiring ∧ x = .drain)

section
variable {x : Special} {i : Slot}

theorem Point.Follows.trans {a b c : Point} (h : a.Follows x i b) (h' : b.Follows x i c) : a.Follows x i c where
  name := h.name.trans h'.name
  version := by
    rcases h'.version with hv | hv
    · rw [hv]; exact h.version
    · rcases h.owner with ho | ho
      · exact .inr (ho ▸ hv)
      · cases hv.symm.trans ho
  owner := by
    rcases h'.owner with ho | ho
    · rw [ho]; exact h.owner
    · exact .inr ho
  stays hs := h'.stays (h.stays hs)
  retired hs := (h'.retired hs).elim h.retired .inr
  vacant hs := h.vacant (h'.vacant hs)

theorem Point.SameLife.follows {pt qt : Point} (h : pt.SameLife x i qt) : pt.Follows x i qt :=
  ⟨h.name, h.version, h.owner, h.retiring.mpr, fun hs => .inl (h.retiring.mp hs), h.vacant⟩

theorem SlotFollows.refl (a : Option Point) : SlotFollows x i a a where
  filled h := .inl h
  kept pt qt h h' := by
    obtain rfl : pt = qt := Option.some.inj (h.symm.trans h')
    exact (Point.SameLife.refl i pt).follows
  freed pt h h' := by cases h.symm.trans h'

/-- One command has one special change, so that a slot it frees is not filled again and a point it retires is not drained. -/
theorem SlotFollows.trans {a b c : Option Point} (h : SlotFollows x i a b) (h' : SlotFollows x i b c) : SlotFollows x i a c where
  filled ha := (h.filled ha).elim h'.filled .inr
  kept pt rt ha hc := by
    cases hb : b with
    | some qt => exact (h.kept pt qt ha hb).trans (h'.kept qt rt hb hc)
    | none =>
      rcases h'.filled hb with hn | hx
      · cases hn.symm.trans hc
      · rcases h.freed pt ha hb with ⟨-, hy⟩ | ⟨-, hy⟩ <;> cases hx.symm.trans hy
  freed pt ha hc := by
    cases hb : b with
    | none => exact h.freed pt ha hb
    | some qt =>
      have hf := h.kept pt qt ha hb
      rcases h'.freed qt hb hc with ⟨hs, hx⟩ | ⟨hs, hx⟩
      · exact .inl ⟨fun hp => hs (hf.stays hp), hx⟩
      · rcases hf.retired hs with hp | hy
        · exact .inr ⟨hp, hx⟩
        · cases hx.symm.trans hy

theorem LivesKept.slotFollows {s t : State} (h : LivesKept x s t) (i : Slot) : SlotFollows x i (s.point i) (t.point i) where
  filled ha := .inl (by simpa [ha] using h.isNone i)
  kept pt qt ha hb := by
    obtain ⟨pt', hp, hl⟩ := h.of_some hb
    obtain rfl : pt' = pt := Option.some.inj (hp.symm.trans ha)
    exact hl.follows
  freed pt ha hb := by
    have hn := h.isNone i
    rw [ha, hb] at hn
    cases hn

theorem SlotFollows.of_eq {a b : Option Point} (h : b = a) : SlotFollows x i a b := by rw [h]; exact .refl a

theorem Turnover.slotFollows {s t : State} (h : Turnover x s t) (i : Slot) : SlotFollows x i (s.point i) (t.point i) := by
  cases h with
  | @fill k p key width readers fresh hx h hk hw hg =>
    by_cases hik : k = i
    · subst hik
      exact ⟨fun _ => .inr hx, fun pt _ hp => (by cases h.symm.trans hp), fun pt hp => (by cases h.symm.trans hp)⟩
    · exact .of_eq (by simp [State.fillSlot, hik])
  | @retire k pt hx h hs hu =>
    obtain ⟨⟨n, hk⟩, hj⟩ := retireSlot_point h
    by_cases hik : i = k
    · subst hik
      refine ⟨fun hn => (by cases h.symm.trans hn), fun pt' qt hp hq => ?_, fun pt' hp _ => .inl ⟨?_, hx⟩⟩
      · obtain rfl : pt = pt' := Option.some.inj (h.symm.trans hp)
        rw [hk, Option.filter_eq_some_iff] at hq
        obtain rfl := Option.some.inj hq.1
        exact ⟨⟨rfl, rfl, rfl, rfl⟩, .inl rfl, .inl rfl, fun _ => rfl, fun _ => .inr hx, fun hv => nomatch hv⟩
      · obtain rfl : pt = pt' := Option.some.inj (h.symm.trans hp)
        exact hs
    · exact .of_eq (hj i hik)
  | @release p gone left hx hq =>
    rw [releaseRefs_point, setQueue_point]
    refine ⟨fun hn => .inl (by rw [hn]; rfl), fun pt qt hp hd => ?_, fun pt hp hd => ?_⟩
    · obtain ⟨pt', hp', rfl, -⟩ := drained_eq_some hd
      obtain rfl : pt = pt' := Option.some.inj (hp.symm.trans hp')
      exact ⟨⟨rfl, rfl, rfl, rfl⟩, .inl rfl, .inl rfl, id, .inl, id⟩
    · rw [hp, drained, Option.bind_some] at hd
      split at hd
      · next hr => exact .inr ⟨hr.1, hx⟩
      · cases hd

theorem Changes.slotFollows {s t : State} (h : Changes x s t) (i : Slot) : SlotFollows x i (s.point i) (t.point i) := by
  induction h with
  | refl => exact .refl _
  | tail _ hc ih =>
    rcases hc.livesKept with hl | ht
    · exact ih.trans (hl.slotFollows i)
    · exact ih.trans (ht.slotFollows i)

end

/-- Settles O60: a command's changes to a slot are those its special change allows. -/
theorem pointsKeepTheirNames : Obligations.PointsKeepTheirNames := by
  intro s t c i h h1 h2 h3
  rcases (exec_happens h).moves with ⟨x, u, v, hx, hsu, huv, hvt⟩ | ⟨hc | hc | hc, -⟩
  · have hf := huv.slotFollows i
    rw [hsu.point, ← hvt.point] at hf
    refine ⟨fun hn => (hf.filled hn).imp_right fun hy => ?_, fun pt hp => ⟨fun qt hq => ?_, fun hn => ?_⟩⟩
    · subst hy; exact hx
    · obtain ⟨⟨hk, hw, hr, hfr⟩, hv, ho, hst, -, hva⟩ := hf.kept pt qt hp hq
      refine ⟨hk, hw, hr, hfr, hv.imp_right fun hy => ?_, ho.imp_right fun hy => ?_, hst, hva⟩
      · subst hy; exact hx
      · subst hy; exact hx
    · refine (hf.freed pt hp hn).imp (And.imp_right fun hy => ?_) (And.imp_right fun hy => ?_)
      · subst hy; exact hx
      · subst hy; exact hx
  · exact (h1 hc).elim
  · exact (h2 hc).elim
  · exact (h3 hc).elim

end Sys2Proof.Machine
end

section
/-! SUPPORT. Requests into the arbiter: what each command leaves presented, what a command out of turn does, and the rotations of the
arbiter (R25) and of the standing unit (R135). -/

namespace Sys2Proof.Machine

/-! ## Requests stay presented -/

/-- After a port's grant the requests of the other ports, of the timer unit and of the standing unit are still presented. -/
theorem handBack_keeps_others {s u : State} (hk : RequestsKept s u) {p : Port} (hg : u.lastGrant = .port p) (tag : Byte) (c : Command)
    (r : Reply) :
    (∀ q, q ≠ p → ((u.handBack p tag c r).engine q).request = (s.engine q).request) ∧ UnitsStay s (u.handBack p tag c r) := by
  obtain ⟨⟨-, -, ho, -, -, -, -, hs⟩, -, -, ht⟩ := handBack_answered u p tag c r hg
  refine ⟨fun q hq => ?_, fun x hx => ?_, fun x hx => ?_⟩
  · rw [(ho q hq).1, hk.ports q]
  · rw [ht, hk.timer, hx]
  · rw [hs, hk.standing, hx, Option.some_or]

/-- Settles O4: every command is a grant, an entry to RESET or an event (`exec_happens`), and each of these is looked at once. -/
theorem requestsStayPresented : Obligations.RequestsStayPresented := by
  intro c s t hl h h1 h2 h3
  cases exec_happens h with
  | @taken p tag r hc ht =>
    have hk : RequestsKept (s.setGrant (.port p)) (requestOp p r (s.setGrant (.port p))).1 := by
      obtain ⟨x, -, hm⟩ := requestOp_changes hc (s.setGrant (.port p))
      exact hm.requestsKept
    obtain ⟨hp, hu⟩ := handBack_keeps_others hk hk.grant tag r.command (requestOp p r (s.setGrant (.port p))).2
    refine ⟨fun q pr hq => ?_, fun i k hi => .inl (hu.timer _ hi), fun x hx => .inl (hu.standing _ hx)⟩
    by_cases hqp : q = p
    · subst hqp
      obtain rfl : pr = { tag := tag, request := r } := Option.some.inj (hq.symm.trans ht.1)
      exact .inr (.inl ⟨hc, ht.2⟩)
    · exact .inl ((hp q hqp).trans hq)
  | @expired i k hc hr hg =>
    have hk : RequestsKept ((s.setTimer { s.timer with request := none }).setGrant .timer)
        (if s.isDue i k then State.expire ((s.setTimer { s.timer with request := none }).setGrant .timer) i k
          else (s.setTimer { s.timer with request := none }).setGrant .timer) := by
      split
      · exact (expire_changes _ i k).requestsKept
      · exact .refl _
    refine ⟨fun q pr hq => .inl ((hk.ports q).trans hq), fun j m hj => .inr ⟨?_, hg⟩, fun x hx => .inl (hk.standing.trans hx)⟩
    obtain ⟨rfl, rfl⟩ : i = j ∧ k = m := by simpa [hr] using hj
    cases k with
    | fresh => exact .inl ⟨hc, rfl⟩
    | hold => exact .inr ⟨hc, rfl⟩
  | @stood r hc hr hg =>
    have hk : RequestsKept (((s.setStandingRequest none).setLastPort r.port).setGrant .standing)
        (r.op (((s.setStandingRequest none).setLastPort r.port).setGrant .standing)) := by
      obtain ⟨x, -, hm⟩ := standingOp_changes (((s.setStandingRequest none).setLastPort r.port).setGrant .standing) r
      exact hm.requestsKept
    refine ⟨fun q pr hq => .inl ?_, fun i k hi => .inl ?_, fun x hx => .inr ⟨?_, hg⟩⟩
    · rw [presentHeld_engine, hk.ports q]; exact hq
    · rw [presentHeld_timer, hk.timer]; exact hi
    · obtain rfl : r = x := Option.some.inj (hr.symm.trans hx)
      cases r with
      | sever p => exact ⟨p, .inl ⟨hc, rfl⟩⟩
      | restored p => exact ⟨p, .inr (.inl ⟨hc, rfl⟩)⟩
      | change p => exact ⟨p, .inr (.inr ⟨hc, rfl⟩)⟩
  | reset hc =>
    rcases hc with hc | hc | hc
    · exact (h1 hc).elim
    · exact (h2 hc).elim
    · exact (h3 hc).elim
  | event hu hs hp =>
    refine ⟨fun q pr hq => ?_, fun i k hi => .inl (hs.timer _ hi), fun r hr => .inl (hs.standing _ hr)⟩
    by_cases hc : c = .droopFreeze
    · exact .inr (.inr hc)
    · exact .inl (hp hl hc q pr hq)

/-! ## Commands out of turn -/

theorem grantTimer_of_not_granted {s : State} {i : Slot} {k : DeadlineKind} (op : State → State)
    (h : ¬(s.timer.request = some (i, k) ∧ s.nextGrant = some .timer)) : s.grantTimer i k op = .next s := by
  rw [State.grantTimer, if_neg h]

theorem grantStanding_of_not_granted {s : State} {r : StandingRequest} {p : Port} (op : State → State)
    (h : ¬(s.standing.request = some r ∧ s.nextGrant = some .standing)) : s.grantStanding r p op = .next s := by
  rw [State.grantStanding, if_neg h]

theorem execExpiryRequest_idle {s : State}
    (h : s.timer.request.isSome ∨ ∀ d, s.timer.deadlines.head? = some d → d.due = false) : execExpiryRequest s = .next s := by
  unfold execExpiryRequest
  split
  · next d ds hr hd =>
    have hdue : d.due = false := h.elim (fun hs => by rw [hr] at hs; cases hs) fun hh => hh d (by rw [hd]; rfl)
    rw [hdue]
    rfl
  · rfl

theorem execBadFrame_idle {s : State} {p : Port} {frame : List Byte}
    (h : s.receiving p = false ∨ ∀ tag, checkFrame frame ≠ .badFrame tag) : execBadFrame p frame s = .next s := by
  unfold execBadFrame
  split
  · next tag hf => exact if_neg fun hr => h.elim (fun hn => by simp [hn] at hr) fun hn => hn tag hf
  · rfl

theorem execCheckFail_idle {s : State} {p : Port} {frame : List Byte}
    (h : s.receiving p = false ∨ ∀ tag, checkFrame frame ≠ .checkFail tag) : execCheckFail p frame s = .next s := by
  unfold execCheckFail
  split
  · next tag hf => exact if_neg fun hr => h.elim (fun hn => by simp [hn] at hr) fun hn => hn tag hf
  · rfl

theorem execHeld_idle {s : State} {p : Port} {frame : List Byte}
    (h : s.receiving p = false ∨ s.supply.state = .running ∨ ∀ tag q, checkFrame frame ≠ .good tag q) :
    execHeld p frame s = .next s := by
  unfold execHeld
  split
  · next tag r hf =>
    refine if_neg fun ⟨hr, hs⟩ => ?_
    rcases h with hn | hn | hn
    · simp [hn] at hr
    · exact hs hn
    · exact hn tag r hf
  · rfl

theorem execResend_idle {s : State} {p : Port} {frame : List Byte}
    (h : s.receiving p = false ∨ s.supply.state ≠ .running ∨ ∀ tag named, checkFrame frame ≠ .good tag (.resend named)) :
    execResend p frame s = .next s := by
  unfold execResend
  split
  · next tag named hf =>
    refine if_neg fun ⟨hr, hs⟩ => ?_
    rcases h with hn | hn | hn
    · simp [hn] at hr
    · exact hn hs
    · exact hn tag named hf
  · rfl

theorem execRequestPresented_idle {s : State} {p : Port} {frame : List Byte}
    (h : s.receiving p = false ∨ s.supply.state ≠ .running ∨
      ∀ tag q, checkFrame frame = .good tag q → ∃ named, q = .resend named) : execRequestPresented p frame s = .next s := by
  unfold execRequestPresented
  split
  · next tag r hf =>
    refine if_neg fun ⟨hr, hs, hc⟩ => ?_
    rcases h with hn | hn | hn
    · simp [hn] at hr
    · exact hn hs
    · obtain ⟨named, rfl⟩ := hn tag r hf
      exact hc rfl
  · rfl

theorem execSelectPeriodStart_idle {s : State} {p : Port} (h : (s.engine p).period ≠ .high) :
    execSelectPeriodStart p s = .next s := by
  unfold execSelectPeriodStart
  dsimp only
  split
  · next hp => exact (h hp).elim
  · rfl

theorem execSelectPeriodEnd_idle {s : State} {p : Port} (h : (s.engine p).period = .high) : execSelectPeriodEnd p s = .next s := by
  unfold execSelectPeriodEnd
  simp only [h]

/-- No droop is detected in RESET or FROZEN (R167). -/
theorem droopDetected_eq_false {s : State} (h : s.supply.state = .reset ∨ s.supply.state = .frozen) : s.droopDetected = false := by
  unfold State.droopDetected
  rcases h with h | h <;> rw [h] <;> rfl

theorem execDroopFreeze_idle {s : State} (h : s.supply.state = .reset ∨ s.supply.state = .frozen ∨ s.supply.swm = .reset) :
    execDroopFreeze s = .next s := by
  unfold execDroopFreeze
  refine if_neg fun ⟨hd, hw⟩ => ?_
  rcases h with h | h | h
  · simp [droopDetected_eq_false (.inl h)] at hd
  · simp [droopDetected_eq_false (.inr h)] at hd
  · cases h.symm.trans hw

theorem execSupplyReset_idle {s : State} (h : s.supply.state = .reset ∨ s.supply.state = .frozen ∨ s.supply.swm = .freeze) :
    execSupplyReset s = .next s := by
  unfold execSupplyReset
  refine if_neg fun ⟨hd, hw⟩ => ?_
  rcases h with h | h | h
  · simp [droopDetected_eq_false (.inl h)] at hd
  · simp [droopDetected_eq_false (.inr h)] at hd
  · cases h.symm.trans hw

/-- Settles O5: each command's own condition fails, so that its meaning answers the state it was given. -/
theorem outOfTurnChangesNothing : Obligations.OutOfTurnChangesNothing := by
  intro s p r c i
  refine ⟨fun hc ht => ?_, fun h => ?_, fun h => ?_, fun h => ?_, fun h => ?_, fun h => ?_, fun h => ?_, fun h => ?_,
    fun frame => ⟨fun h => ?_, fun h => ?_, fun h => ?_, fun h => ?_, fun h => ?_⟩, fun h => ?_, fun h => ?_, fun h sup swm => ?_,
    fun h => ?_, fun h => ?_, fun h => ?_, fun h => ?_⟩
  · rw [exec_taken hc]; exact grantPort_of_not_taken _ ht
  · exact grantTimer_of_not_granted (fun s => s.expireFresh i) h
  · exact grantTimer_of_not_granted (fun s => s.expireHold i) h
  · exact grantStanding_of_not_granted (fun s => s.severPort p) h
  · exact grantStanding_of_not_granted (fun s => s.restorePort p) h
  · exact grantStanding_of_not_granted (fun s => s.reportStanding p) h
  · exact if_neg h
  · exact execExpiryRequest_idle h
  · exact execBadFrame_idle h
  · exact execCheckFail_idle h
  · exact execHeld_idle h
  · exact execResend_idle h
  · exact execRequestPresented_idle h
  · exact execSelectPeriodStart_idle h
  · exact execSelectPeriodEnd_idle h
  · exact if_neg h
  · exact if_neg h
  · exact if_neg h
  · exact execDroopFreeze_idle h
  · exact execSupplyReset_idle h

/-! ## The arbiter's rotation -/

/-- The first element of a list that has a property: it has it, and none before it in the list does. -/
theorem find?_eq_some_iff_idxOf {α : Type} [DecidableEq α] {l : List α} {g : α} (hg : g ∈ l) (f : α → Bool) :
    l.find? f = some g ↔ f g = true ∧ ∀ r, l.idxOf r < l.idxOf g → f r = false := by
  induction l with
  | nil => cases hg
  | cons a l ih =>
    by_cases hag : a = g
    · subst hag
      cases hf : f a with
      | true => simp [hf]
      | false =>
        refine iff_of_false (fun h => ?_) (by simp)
        have := List.find?_some h
        rw [hf] at this
        cases this
    · have hgl : g ∈ l := (List.mem_cons.mp hg).resolve_left (Ne.symm hag)
      rw [List.idxOf_cons_ne _ hag, List.find?_cons]
      cases hf : f a with
      | true =>
        refine iff_of_false (by simpa using hag) fun h => ?_
        have := h.2 a (by simp)
        rw [hf] at this
        cases this
      | false =>
        rw [ih hgl]
        refine and_congr_right fun _ => ⟨fun h r hr => ?_, fun h r hr => ?_⟩
        · by_cases har : a = r
          · exact har ▸ hf
          · rw [List.idxOf_cons_ne _ har] at hr
            exact h r (by omega)
        · by_cases har : a = r
          · exact har ▸ hf
          · exact h r (by rw [List.idxOf_cons_ne _ har]; omega)

theorem mem_ring (r : Requester) : r ∈ ring := by
  cases r with
  | port p => revert p; decide
  | timer => decide
  | standing => decide

theorem mem_ringAfter (a r : Requester) : r ∈ ringAfter a := by
  have h : ∀ a ∈ ring, ∀ r ∈ ring, r ∈ ringAfter a := by decide
  exact h a (mem_ring a) r (mem_ring r)

theorem idxOf_ringAfter_le (a r : Requester) : (ringAfter a).idxOf r ≤ 5 := by
  have h : ∀ a ∈ ring, ∀ r ∈ ring, (ringAfter a).idxOf r ≤ 5 := by decide
  exact h a (mem_ring a) r (mem_ring r)

/-- A requester behind the one that is granted comes nearer: the ring is then read from the one granted on (R25). -/
theorem idxOf_ringAfter_lt (a g r : Requester) (h : (ringAfter a).idxOf g < (ringAfter a).idxOf r) :
    (ringAfter g).idxOf r < (ringAfter a).idxOf r := by
  have hd : ∀ a ∈ ring, ∀ g ∈ ring, ∀ r ∈ ring, (ringAfter a).idxOf g < (ringAfter a).idxOf r →
      (ringAfter g).idxOf r < (ringAfter a).idxOf r := by decide
  exact hd a (mem_ring a) g (mem_ring g) r (mem_ring r) h

theorem nextGrant_eq_some_iff (s : State) (g : Requester) :
    s.nextGrant = some g ↔ s.supply.state = .running ∧ s.presented g = true ∧
      ∀ r, (ringAfter s.lastGrant).idxOf r < (ringAfter s.lastGrant).idxOf g → s.presented r = false := by
  unfold State.nextGrant
  split
  · next h => rw [find?_eq_some_iff_idxOf (mem_ringAfter _ g)]; simp [h]
  · next h => simp [h]

/-! ## The standing unit's rotation -/

theorem mem_portsAfter (last p : Port) : p ∈ portsAfter last := by
  revert last p; decide

theorem idxOf_portsAfter (last p : Port) : (portsAfter last).idxOf p = (p - last - 1).val := by
  revert last p; decide

/-- The port found in rotation is the first with the property (R135). -/
theorem find?_portsAfter {last p : Port} {f : Port → Bool} {holds : Port → Prop} (hf : ∀ q, f q = true ↔ holds q) :
    (portsAfter last).find? f = some p ↔ FirstInRotation last holds p := by
  rw [find?_eq_some_iff_idxOf (mem_portsAfter last p), FirstInRotation, hf]
  simp only [idxOf_portsAfter, ← hf, Bool.not_eq_true]

theorem find?_portsAfter_none {last : Port} {f : Port → Bool} {holds : Port → Prop} (hf : ∀ q, f q = true ↔ holds q) :
    (portsAfter last).find? f = none ↔ ∀ q, ¬holds q := by
  simp [List.find?_eq_none, mem_portsAfter, hf]

section
variable {s : State} {sever complete change : Port → Prop}
  (hsever : ∀ q, sever q ↔ (s.record q).severPending = true ∧ (s.engine q).request = none)
  (hcomplete : ∀ q, complete q ↔ (s.record q).standing = .restoring ∧ (s.engine q).restoreCount = 32)
  (hchange : ∀ q, change q ↔ (s.record q).reportPending = true)

include hsever hcomplete hchange in
/-- The standing unit's choice: a sever before a completed restoration before a change, within a kind by rotation (R135). -/
theorem heldRequest_cases :
    (∃ p, s.heldRequest = some (.sever p) ∧ FirstInRotation s.standing.lastPort sever p) ∨
    (∃ p, s.heldRequest = some (.restored p) ∧ (∀ q, ¬sever q) ∧ FirstInRotation s.standing.lastPort complete p) ∨
    (∃ p, s.heldRequest = some (.change p) ∧ (∀ q, ¬sever q) ∧ (∀ q, ¬complete q) ∧
      FirstInRotation s.standing.lastPort change p) ∨
    (s.heldRequest = none ∧ ∀ q, ¬sever q ∧ ¬complete q ∧ ¬change q) := by
  have h1 : ∀ q, ((s.record q).severPending && (s.engine q).request.isNone) = true ↔ sever q := fun q => by simp [hsever]
  have h2 : ∀ q, ((s.record q).standing == .restoring && (s.engine q).restoreCount == Config.restoreRun) = true ↔ complete q :=
    fun q => by simp [hcomplete, Config.restoreRun]
  have h3 : ∀ q, (s.record q).reportPending = true ↔ change q := fun q => (hchange q).symm
  unfold State.heldRequest
  dsimp only
  split
  · next p hp => exact .inl ⟨p, rfl, (find?_portsAfter h1).mp hp⟩
  · next hn =>
    have hn := (find?_portsAfter_none h1).mp hn
    split
    · next p hp => exact .inr (.inl ⟨p, rfl, hn, (find?_portsAfter h2).mp hp⟩)
    · next hm =>
      have hm := (find?_portsAfter_none h2).mp hm
      cases hp : (portsAfter s.standing.lastPort).find? fun q => (s.record q).reportPending with
      | some p => exact .inr (.inr (.inl ⟨p, rfl, hn, hm, (find?_portsAfter h3).mp hp⟩))
      | none => exact .inr (.inr (.inr ⟨rfl, fun q => ⟨hn q, hm q, (find?_portsAfter_none h3).mp hp q⟩⟩))

end

/-- No two ports are both the first in rotation. -/
theorem FirstInRotation.unique {last p q : Port} {holds : Port → Prop} (hp : FirstInRotation last holds p)
    (hq : FirstInRotation last holds q) : p = q := by
  have h1 : ¬(p - last - 1).val < (q - last - 1).val := fun h => hq.2 p h hp.1
  have h2 : ¬(q - last - 1).val < (p - last - 1).val := fun h => hp.2 q h hq.1
  have he : p - last - 1 = q - last - 1 := Fin.ext (by omega)
  simpa using he

/-- Settles O3: the arbiter's choice and the standing unit's are both the first of a list in rotation. -/
theorem arbiterAndStandingRotation : Obligations.ArbiterAndStandingRotation := by
  refine ⟨fun s g => ⟨nextGrant_eq_some_iff s g, idxOf_ringAfter_le _, fun hg r hr hne => ?_⟩,
    fun s p sever complete change hsever hcomplete hchange => ?_⟩
  · obtain ⟨-, -, hbefore⟩ := (nextGrant_eq_some_iff s g).mp hg
    refine idxOf_ringAfter_lt _ g r (lt_of_le_of_ne (not_lt.mp fun hlt => ?_) fun he => hne ?_)
    · rw [hbefore r hlt] at hr; cases hr
    · exact ((List.idxOf_inj (mem_ringAfter _ g)).mp he).symm
  · rcases heldRequest_cases hsever hcomplete hchange with ⟨q, hq, hf⟩ | ⟨q, hq, hn, hf⟩ | ⟨q, hq, hn, hm, hf⟩ | ⟨hq, hn⟩
    · refine ⟨⟨fun h => ?_, fun h => by rw [hq, hf.unique h]⟩, iff_of_false (by simp [hq]) fun h => h.1 q hf.1,
        iff_of_false (by simp [hq]) fun h => h.1 q hf.1, iff_of_false (by simp [hq]) fun h => (h q).1 hf.1⟩
      rw [hq] at h; cases h; exact hf
    · refine ⟨iff_of_false (by simp [hq]) fun h => hn p h.1, ⟨fun h => ?_, fun h => by rw [hq, hf.unique h.2]⟩,
        iff_of_false (by simp [hq]) fun h => h.2.1 q hf.1, iff_of_false (by simp [hq]) fun h => (h q).2.1 hf.1⟩
      rw [hq] at h; cases h; exact ⟨hn, hf⟩
    · refine ⟨iff_of_false (by simp [hq]) fun h => hn p h.1, iff_of_false (by simp [hq]) fun h => hm p h.2.1,
        ⟨fun h => ?_, fun h => by rw [hq, hf.unique h.2.2]⟩, iff_of_false (by simp [hq]) fun h => (h q).2.2 hf.1⟩
      rw [hq] at h; cases h; exact ⟨hn, hm, hf⟩
    · exact ⟨iff_of_false (by simp [hq]) fun h => (hn p).1 h.1, iff_of_false (by simp [hq]) fun h => (hn p).2.1 h.2.1,
        iff_of_false (by simp [hq]) fun h => (hn p).2.2 h.2.2.1, iff_of_true hq hn⟩

end Sys2Proof.Machine
end

section
/-! SUPPORT. The refusals of the publishing commands in the order of their rules, and CREATE where it passes them. -/

namespace Sys2Proof.Machine

/-! ## Refusal orders -/

theorem stands_limited (s : State) (p : Port) : s.stands p [.restricted, .restoring] = s.limited p := by
  simp [State.stands, State.limited]

theorem holds_of_none {s : State} {i : Slot} (h : s.point i = none) (f : Point → Bool) : s.holds i f = false := by
  unfold State.holds
  generalize s.point i = x at h
  subst h; rfl

theorem holds_of_some {s : State} {i : Slot} {pt : Point} (h : s.point i = some pt) (f : Point → Bool) : s.holds i f = f pt := by
  unfold State.holds
  generalize s.point i = x at h
  subst h; rfl

/-- Whenever a refusal of the list applies, the result is the first that does, with the state as it was. -/
def RefusesBy (l : List (Bool × Status)) (s : State) (result : State × Reply) : Prop :=
  firstRefusal l ≠ .ok → result = (s, .refuse (firstRefusal l))

section
variable {s : State} {b : Bool} {st : Status} {l : List (Bool × Status)} {result : State × Reply}

theorem RefusesBy.nil : RefusesBy [] s result := fun h => (h rfl).elim

theorem RefusesBy.head (hb : b = true) : RefusesBy ((b, st) :: l) s (s, .refuse st) := fun _ => by
  rw [firstRefusal, if_pos hb]

theorem RefusesBy.skip (hb : b = false) (h : RefusesBy l s result) : RefusesBy ((b, st) :: l) s result := by
  subst hb; exact h

/-- An operation that begins with the test of the list's first refusal. -/
theorem RefusesBy.ite {c : Prop} [Decidable c] (hc : c ↔ b = true) (h : RefusesBy l s result) :
    RefusesBy ((b, st) :: l) s (if c then (s, .refuse st) else result) := by
  split
  · next h' => exact .head (hc.mp h')
  · next h' => exact .skip (by simpa [hc] using h') h

end

/-- In an exact index a key is found exactly when a point has it (R10, R13). -/
theorem IndexExact.lookupKey_isSome {s : State} (h : IndexExact s) (key : Key) :
    (s.lookupKey key).isSome = allSlots.any fun i => s.holds i fun pt => pt.key == key := by
  obtain ⟨-, he, hi⟩ := h
  rw [Bool.eq_iff_iff, List.any_eq_true]
  constructor
  · intro hs
    obtain ⟨e, hm, hk⟩ : ∃ e ∈ s.dir.index, e.1 = key := by simpa [State.lookupKey] using hs
    obtain ⟨pt, hpt, hpk⟩ := he e hm
    exact ⟨e.2, mem_allSlots _, by rw [holds_of_some hpt]; simpa using hpk.trans hk⟩
  · rintro ⟨i, -, hh⟩
    cases hp : s.point i with
    | none => rw [holds_of_none hp] at hh; cases hh
    | some pt =>
      rw [holds_of_some hp, beq_iff_eq] at hh
      have := hi i pt hp
      simp only [State.lookupKey, Option.isSome_map, List.find?_isSome, beq_iff_eq]
      exact ⟨_, this, hh⟩

/-- No slot is the lowest FREE one exactly when none is FREE (R14). -/
theorem lowestFree_eq_none (s : State) : s.lowestFree = none ↔ (allSlots.all fun i => (s.point i).isSome) = true := by
  simp [State.lowestFree, List.find?_eq_none, Option.isSome_iff_ne_none]

theorem createOp_refuses {s : State} (h : IndexExact s) (p : Port) (key : Key) (width : Byte) (readers : PortSet)
    (fresh : BitVec 16) :
    RefusesBy (s.refusals p (.create key width readers fresh)) s (createOp p key width readers fresh s) := by
  unfold createOp
  refine .ite (by rw [stands_limited]) (.ite (by simp [Config.maxWidth]) (.ite (by rw [h.lookupKey_isSome]) ?_))
  split
  · next hf => exact .head ((lowestFree_eq_none s).mp hf)
  · next i hf =>
    refine .skip ?_ (.ite (by simp [granulesFor, Config.granuleBytes]) .nil)
    rw [← Bool.not_eq_true, ← lowestFree_eq_none, hf]
    exact Option.some_ne_none i

section
variable (p : Port) (i : Slot) (s : State)

theorem openOp_refuses : RefusesBy (s.refusals p (.openUpdate i)) s (openOp p i s) := by
  unfold openOp
  refine .ite (by rw [stands_limited]) ?_
  split
  · next h => exact .head (by rw [h]; rfl)
  · next pt h =>
    exact .skip (by rw [h]; rfl) (.ite (by simp [holds_of_some h]) (.ite (by simp [holds_of_some h])
      (.ite (by simp [holds_of_some h]) (.ite (by simp [Config.maxOpenUpdates]) .nil))))

theorem writeOp_refuses (offset : Byte) (data : List Byte) :
    RefusesBy (s.refusals p (.write i offset data)) s (writeOp p i offset data s) := by
  unfold writeOp
  refine .ite (by rw [stands_limited]) ?_
  split
  · next h => exact .head (by rw [h]; rfl)
  · next pt h =>
    exact .skip (by rw [h]; rfl) (.ite (by simp [holds_of_some h]) (.ite (by simp [holds_of_some h])
      (.ite (by simp [holds_of_some h]) (.ite (by simp [holds_of_some h]) .nil))))

theorem commitOp_refuses : RefusesBy (s.refusals p (.commit i)) s (commitOp p i s) := by
  unfold commitOp
  refine .ite (by rw [stands_limited]) ?_
  split
  · next h => exact .head (by rw [h]; rfl)
  · next pt h =>
    exact .skip (by rw [h]; rfl) (.ite (by simp [holds_of_some h]) (.ite (by simp [holds_of_some h])
      (.ite (by simp [holds_of_some h]) .nil)))

theorem discardOp_refuses : RefusesBy (s.refusals p (.discard i)) s (discardOp p i s) := by
  unfold discardOp
  split
  · next h => exact .head (by rw [h]; rfl)
  · next pt h =>
    exact .skip (by rw [h]; rfl) (.ite (by simp [holds_of_some h]) (.ite (by simp [holds_of_some h])
      (.ite (by simp [holds_of_some h]) .nil)))

theorem putOp_refuses (offset : Byte) (data : List Byte) :
    RefusesBy (s.refusals p (.put i offset data)) s (putOp p i offset data s) := by
  unfold putOp
  refine .ite (by rw [stands_limited]) ?_
  split
  · next h => exact .head (by rw [h]; rfl)
  · next pt h =>
    exact .skip (by rw [h]; rfl) (.ite (by simp [holds_of_some h]) (.ite (by simp [holds_of_some h])
      (.ite (by simp [holds_of_some h]) (.ite (by simp [holds_of_some h]) .nil))))

theorem refreshOp_refuses : RefusesBy (s.refusals p (.refresh i)) s (refreshOp p i s) := by
  unfold refreshOp
  refine .ite (by rw [stands_limited]) ?_
  split
  · next h => exact .head (by rw [h]; rfl)
  · next pt h =>
    exact .skip (by rw [h]; rfl) (.ite (by simp [holds_of_some h]) (.ite (by simp [holds_of_some h])
      (.ite (by simp [holds_of_some h]) .nil)))

theorem retireOp_refuses : RefusesBy (s.refusals p (.retire i)) s (retireOp p i s) := by
  unfold retireOp
  refine .ite (by rw [stands_limited]) ?_
  split
  · next h => exact .head (by rw [h]; rfl)
  · next pt h => exact .skip (by rw [h]; rfl) (.ite (by simp [holds_of_some h]) (.ite (by simp [holds_of_some h]) .nil))

end

/-- The arbiter's grant does not touch what a refusal looks at. -/
theorem refusals_setGrant (s : State) (g : Requester) (p : Port) (r : Request) : (s.setGrant g).refusals p r = s.refusals p r := by
  cases r with
  | find target => cases target <;> rfl
  | _ => rfl

/-- Every command of the publishing group answers the first refusal of its rule's order that applies. -/
theorem publishing_refuses {s : State} (h : IndexExact s) (p : Port) {r : Request}
    (hr : r.command ∈ [Command.create, .openUpdate, .write, .commit, .discard, .put, .refresh, .retire]) :
    RefusesBy (s.refusals p r) s (requestOp p r s) := by
  cases r
  case create key width readers fresh => exact createOp_refuses h p key width readers fresh
  case openUpdate i => exact openOp_refuses p i s
  case write i offset data => exact writeOp_refuses p i s offset data
  case commit i => exact commitOp_refuses p i s
  case discard i => exact discardOp_refuses p i s
  case put i offset data => exact putOp_refuses p i s offset data
  case refresh i => exact refreshOp_refuses p i s
  case retire i => exact retireOp_refuses p i s
  all_goals exact absurd hr (by simp [Request.command])

/-- A taken request whose operation refuses is answered with the refusal, and the directory, notices and timer are as they were. -/
theorem refused_answered {s : State} {p : Port} {tag : Byte} {r : Request} {c : Instr} (ht : Taken s p tag r)
    (hc : r.taken p = some c) (hr : RefusesBy ((s.setGrant (.port p)).refusals p r) (s.setGrant (.port p))
      (requestOp p r (s.setGrant (.port p)))) (hn : firstRefusal (s.refusals p r) ≠ .ok) :
    ∃ t, exec c s = .next t ∧ Answered s t p tag r.command (firstRefusal (s.refusals p r)) [] ∧ DirectoryKept s t := by
  rw [refusals_setGrant] at hr
  rw [exec_taken hc]
  exact grantPort_answered _ ht (hr hn) (fun _ => rfl) rfl rfl rfl rfl

/-- Settles O14: each operation tests its refusals in the order of its rule (`publishing_refuses`). -/
theorem publishingRefusals : Obligations.PublishingRefusals := by
  intro s p tag r c hs ht hc hr hn
  have hs' : IndexExact (s.setGrant (.port p)) := hs
  exact refused_answered ht hc (publishing_refuses hs' p hr) hn

/-! ## CREATE -/

/-- The slot that CREATE takes is FREE, and every slot below it is not (R14). -/
theorem lowestFree_eq_some {s : State} {i : Slot} (h : s.lowestFree = some i) :
    s.point i = none ∧ ∀ j, j < i → (s.point j).isSome := by
  refine ⟨point_of_lowestFree h, fun j hj => ?_⟩
  obtain ⟨-, below, above, hl, hb⟩ := List.find?_eq_some_iff_append.mp h
  have hs : (below ++ i :: above).Pairwise (· < ·) := hl ▸ (List.sortedLT_finRange 256).pairwise
  have hm : j ∈ below ++ i :: above := hl ▸ mem_allSlots j
  rcases List.mem_append.mp hm with hm | hm
  · simpa [Option.isSome_iff_ne_none] using hb j hm
  · obtain ⟨hi, -⟩ := List.pairwise_cons.mp (List.pairwise_append.mp hs).2.1
    rcases List.mem_cons.mp hm with rfl | hm
    · exact absurd hj (lt_irrefl _)
    · exact absurd hj (lt_asymm (hi j hm))

/-- No refusal applies when the first one's condition fails and no later one applies. -/
theorem firstRefusal_cons_eq_ok {b : Bool} {st : Status} {l : List (Bool × Status)} (h : firstRefusal ((b, st) :: l) = .ok)
    (hst : st ≠ .ok) : b = false ∧ firstRefusal l = .ok := by
  cases b with
  | false => exact ⟨rfl, h⟩
  | true => exact (hst h).elim

/-- A CREATE that passes its refusals fills the lowest FREE slot (R23). -/
theorem createOp_passes {s : State} (h : IndexExact s) {p : Port} {key : Key} {width : Byte} {readers : PortSet} {fresh : BitVec 16}
    (hp : firstRefusal (s.refusals p (.create key width readers fresh)) = .ok) :
    ∃ i, s.lowestFree = some i ∧ s.lookupKey key = none ∧ 2 * granulesFor width.toNat ≤ s.dir.freeGranules ∧
      createOp p key width readers fresh s = (s.fillSlot i (newPoint p key width.toNat readers fresh), .ok [slotByte i]) := by
  obtain ⟨hlimited, hp⟩ := firstRefusal_cons_eq_ok hp (by decide)
  obtain ⟨hwidth, hp⟩ := firstRefusal_cons_eq_ok hp (by decide)
  obtain ⟨hkey, hp⟩ := firstRefusal_cons_eq_ok hp (by decide)
  obtain ⟨hfree, hp⟩ := firstRefusal_cons_eq_ok hp (by decide)
  obtain ⟨hstore, -⟩ := firstRefusal_cons_eq_ok hp (by decide)
  rw [stands_limited] at hlimited
  rw [← h.lookupKey_isSome] at hkey
  rw [← Bool.not_eq_true, ← lowestFree_eq_none] at hfree
  rw [decide_eq_false_iff_not] at hwidth hstore
  obtain ⟨i, hi⟩ := Option.ne_none_iff_exists'.mp hfree
  have hw : ¬(width.toNat = 0 ∨ width.toNat > Config.maxWidth) := hwidth
  have hg : ¬s.dir.freeGranules < 2 * granulesFor width.toNat := hstore
  refine ⟨i, hi, by simpa using hkey, not_lt.mp hg, ?_⟩
  unfold createOp
  rw [if_neg (by simp [hlimited]), if_neg hw, if_neg (by simp [hkey]), hi]
  exact if_neg hg

/-- Settles O22: the state that `createOp_passes` gives, read slot by slot and entry by entry. -/
theorem createTaken : Obligations.CreateTaken := by
  intro s p tag key width readers fresh hs hp
  obtain ⟨ht, hr⟩ := hp
  rw [← refusals_setGrant s (.port p)] at hr
  obtain ⟨i, hi, hk, hg, hop⟩ := createOp_passes (s := s.setGrant (.port p)) hs hr
  obtain ⟨t, he, ha, hd, hn, htm⟩ := grantPort_answered _ ht hop (fun _ => rfl) rfl rfl rfl rfl
  obtain ⟨hfree, hlow⟩ := lowestFree_eq_some (s := s) hi
  have hpoint : ∀ j, t.point j = if i = j then some (newPoint p key width.toNat readers fresh) else s.point j := fun j => by
    unfold State.point
    rw [hd]
    exact (setPoint_point (s.setGrant (.port p)) i j _).trans rfl
  refine ⟨t, i, he, ha, hfree, hlow, ?_, fun j hj => ?_, ?_, fun q => ?_, ?_, hn, htm⟩
  · rw [hpoint, if_pos rfl]; rfl
  · rw [hpoint, if_neg (Ne.symm hj)]
  · have hf : t.dir.freeGranules = s.dir.freeGranules - 2 * granulesFor width.toNat := by rw [hd]; rfl
    have hg' : 2 * granulesFor width.toNat ≤ s.dir.freeGranules := hg
    have hgr : granulesFor width.toNat = (width.toNat + 15) / 16 := rfl
    omega
  · unfold State.openUpdates; rw [hd]; rfl
  · rw [hd]
    exact indexInsert_split key i s.dir.index hs.1 (lookupKey_eq_none.mp hk)

end Sys2Proof.Machine
end

section
/-! SUPPORT. The publishing commands where they pass their refusals: OPEN, WRITE, COMMIT, DISCARD, PUT and REFRESH. -/

namespace Sys2Proof.Machine

/-! ## Reading a state whose directory was kept -/

section
variable {s u t : State} {i : Slot} {p : Port} (h : DirectoryKept u t)
include h

theorem DirectoryKept.point (j : Slot) : t.point j = u.point j := by
  unfold State.point; rw [h.1]

theorem DirectoryKept.openUpdates (q : Port) : t.openUpdates q = u.openUpdates q := by
  unfold State.openUpdates; rw [h.1]

theorem DirectoryKept.otherSlotsKept (hu : OtherSlotsKept s u i) : OtherSlotsKept s t i :=
  fun j hj => (h.point j).trans (hu j hj)

theorem DirectoryKept.storeKept (hu : StoreKept s u) : StoreKept s t := by
  unfold StoreKept; rw [h.1]; exact hu

theorem DirectoryKept.countsKept (hu : CountsKept s u) : CountsKept s t := fun q => (h.openUpdates q).trans (hu q)

theorem DirectoryKept.countIs {n : Nat} (hu : CountIs s u p n) : CountIs s t p n :=
  ⟨(h.openUpdates p).trans hu.1, fun q hq => (h.openUpdates q).trans (hu.2 q hq)⟩

theorem DirectoryKept.filtersKept (hu : FiltersKept s u) : FiltersKept s t := fun q => by
  rw [← hu q]; unfold State.filters; rw [h.2.1]

theorem DirectoryKept.queuesAre {f : Port → List Notice} (hu : QueuesAre u f) : QueuesAre t f := fun q => by
  rw [← hu q]; unfold State.queue; rw [h.2.1]

theorem DirectoryKept.deadlinesAre {l : List Deadline} (hu : DeadlinesAre s u l) : DeadlinesAre s t l := h.2.2.trans hu

end

/-! ## Requests that pass their refusals -/

@[simp] theorem firstRefusal_nil : firstRefusal [] = .ok := rfl

/-- No refusal applies exactly when no test of the list does. -/
theorem firstRefusal_cons_eq_ok_iff {b : Bool} {st : Status} {l : List (Bool × Status)} (hst : st ≠ .ok) :
    firstRefusal ((b, st) :: l) = .ok ↔ b = false ∧ firstRefusal l = .ok :=
  ⟨fun h => firstRefusal_cons_eq_ok h hst, fun ⟨hb, h⟩ => by subst hb; exact h⟩

/-- A request that passes is answered as its operation answers it at the moment of the grant, and the directory, notices and timer
are left as the operation leaves them. -/
theorem passed_answered {s u : State} {p : Port} {tag : Byte} {r : Request} {c : Instr} {body : List Byte} (ht : Taken s p tag r)
    (hc : r.taken p = some c) (hop : requestOp p r (s.setGrant (.port p)) = (u, .ok body))
    (he : ∀ q, u.engine q = s.engine q) (hr : u.standing = s.standing) (hw : u.supply = s.supply) (hp : u.pending = s.pending)
    (hg : u.lastGrant = .port p) :
    ∃ t, exec c s = .next t ∧ Answered s t p tag r.command .ok body ∧ DirectoryKept u t := by
  rw [exec_taken hc]
  exact grantPort_answered _ ht hop he hr hw hp hg

@[simp] theorem setGrant_limited (s : State) (g : Requester) (p : Port) : (s.setGrant g).limited p = s.limited p := rfl

section
variable {s : State} {p : Port} {i : Slot} {pt : Point}

/-- The refusals of R34, all denied: an OPEN of this point is carried out. -/
theorem openUpdate_passes_iff (h : s.point i = some pt) :
    firstRefusal (s.refusals p (.openUpdate i)) = .ok ↔
      s.limited p = false ∧ pt.owner = p ∧ pt.state ≠ .retiring ∧ pt.updateOpen = false ∧ s.openUpdates p < 4 := by
  refine (firstRefusal_cons_eq_ok_iff (by decide)).trans ?_
  simp [firstRefusal_cons_eq_ok_iff, holds_of_some h, stands_limited, h]

/-- The refusals of R36, all denied: a WRITE of this point is carried out. -/
theorem write_passes_iff (h : s.point i = some pt) {offset : Byte} {data : List Byte} :
    firstRefusal (s.refusals p (.write i offset data)) = .ok ↔
      s.limited p = false ∧ pt.owner = p ∧ pt.state ≠ .retiring ∧ pt.updateOpen = true ∧
        offset.toNat + data.length ≤ pt.width := by
  refine (firstRefusal_cons_eq_ok_iff (by decide)).trans ?_
  simp [firstRefusal_cons_eq_ok_iff, holds_of_some h, stands_limited, h]

/-- The refusals of R38, all denied: a COMMIT of this point is carried out. -/
theorem commit_passes_iff (h : s.point i = some pt) :
    firstRefusal (s.refusals p (.commit i)) = .ok ↔
      s.limited p = false ∧ pt.owner = p ∧ pt.state ≠ .retiring ∧ pt.updateOpen = true := by
  refine (firstRefusal_cons_eq_ok_iff (by decide)).trans ?_
  simp [firstRefusal_cons_eq_ok_iff, holds_of_some h, stands_limited, h]

/-- The refusals of R40, all denied: a DISCARD of this point is carried out, in every standing (R133). -/
theorem discard_passes_iff (h : s.point i = some pt) :
    firstRefusal (s.refusals p (.discard i)) = .ok ↔ pt.owner = p ∧ pt.state ≠ .retiring ∧ pt.updateOpen = true := by
  refine (firstRefusal_cons_eq_ok_iff (by decide)).trans ?_
  simp [firstRefusal_cons_eq_ok_iff, holds_of_some h, h]

/-- The refusals of R42, all denied: a PUT of this point is carried out. -/
theorem put_passes_iff (h : s.point i = some pt) {offset : Byte} {data : List Byte} :
    firstRefusal (s.refusals p (.put i offset data)) = .ok ↔
      s.limited p = false ∧ pt.owner = p ∧ pt.state ≠ .retiring ∧ pt.updateOpen = false ∧
        offset.toNat + data.length ≤ pt.width := by
  refine (firstRefusal_cons_eq_ok_iff (by decide)).trans ?_
  simp [firstRefusal_cons_eq_ok_iff, holds_of_some h, stands_limited, h]

/-- The refusals of R48, all denied: a REFRESH of this point is carried out. -/
theorem refresh_passes_iff (h : s.point i = some pt) :
    firstRefusal (s.refusals p (.refresh i)) = .ok ↔
      s.limited p = false ∧ pt.isReader p = true ∧ pt.state ≠ .retiring ∧ pt.orphaned = false := by
  refine (firstRefusal_cons_eq_ok_iff (by decide)).trans ?_
  simp [firstRefusal_cons_eq_ok_iff, holds_of_some h, stands_limited, h]

end

/-! ## One slot and one count -/

theorem OtherSlotsKept.trans {s u t : State} {i : Slot} (h : OtherSlotsKept s u i) (h' : OtherSlotsKept u t i) :
    OtherSlotsKept s t i := fun j hj => (h' j hj).trans (h j hj)

theorem setPoint_otherSlotsKept (s : State) (i : Slot) (x : Option Point) : OtherSlotsKept s (s.setPoint i x) i :=
  fun j hj => by rw [setPoint_point, if_neg (Ne.symm hj)]

theorem setOpenUpdates_countIs (s : State) (p : Port) (n : Nat) : CountIs s (s.setOpenUpdates p n) p n :=
  ⟨by simp, fun q hq => by simp [Ne.symm hq]⟩

/-! ## OPEN and WRITE -/

/-- Settles O23: slot and count are written, and HOLD armed, as `openOp` says where no refusal applies. -/
theorem openTaken : Obligations.OpenTaken := by
  intro s p tag i pt hp hpt
  obtain ⟨ht, hr⟩ := hp
  obtain ⟨hl, ho, hs, hu, hn⟩ := (openUpdate_passes_iff hpt).mp hr
  have hop : openOp p i (s.setGrant (.port p)) =
      ((((s.setGrant (.port p)).setPoint i (some { pt with pendingBuf := pt.committed, updateOpen := true })).setOpenUpdates p
          (s.openUpdates p + 1)).arm i .hold s.timer.holdlim, .ok (bytes2 pt.version)) := by
    simp [openOp, hl, hpt, ho, hs, hu, not_le.mpr hn, Config.maxOpenUpdates]
  obtain ⟨t, he, ha, hd⟩ := passed_answered ht rfl hop (fun _ => rfl) rfl rfl rfl rfl
  refine ⟨t, he, ha, ?_, hd.otherSlotsKept ?_, hd.storeKept ⟨rfl, rfl⟩, hd.countIs ?_, hd.2.1, hd.deadlinesAre (arm_timer ..)⟩
  · simp [hd.point]
  · exact setPoint_otherSlotsKept (s.setGrant (.port p)) i _
  · exact setOpenUpdates_countIs (s.setGrant (.port p)) p _

/-- The bytes of a buffer after `data` was put into it at `offset`, where it fits (R37). -/
theorem splice_getElem? {buf : List Byte} {offset : Nat} {data : List Byte} (h : offset + data.length ≤ buf.length) (k : Nat) :
    (splice buf offset data)[k]? =
      if offset ≤ k ∧ k < offset + data.length then data[k - offset]? else buf[k]? := by
  have ht : (buf.take offset).length = offset := by rw [List.length_take]; omega
  unfold splice
  rw [List.append_assoc]
  rcases lt_or_ge k offset with hk | hk
  · rw [if_neg (by omega), List.getElem?_append_left (by omega), List.getElem?_take_of_lt hk]
  · rw [List.getElem?_append_right (by omega), ht]
    rcases lt_or_ge k (offset + data.length) with hk' | hk'
    · rw [if_pos ⟨hk, hk'⟩, List.getElem?_append_left (by omega)]
    · rw [if_neg (by omega), List.getElem?_append_right (by omega), List.getElem?_drop]
      congr 1
      omega

/-- Settles O24: the buffer is `splice` of the old one, read byte by byte (`splice_getElem?`). -/
theorem writeTaken : Obligations.WriteTaken := by
  intro s p tag i offset data pt hsound hp hpt
  obtain ⟨ht, hr⟩ := hp
  obtain ⟨hl, ho, hs, hu, hfit⟩ := (write_passes_iff hpt).mp hr
  have hop : writeOp p i offset data (s.setGrant (.port p)) =
      ((s.setGrant (.port p)).setPoint i (some { pt with pendingBuf := splice pt.pendingBuf offset.toNat data }), .ok []) := by
    simp [writeOp, hl, hpt, ho, hs, hu, not_lt.mpr hfit]
  obtain ⟨t, he, ha, hd⟩ := passed_answered ht rfl hop (fun _ => rfl) rfl rfl rfl rfl
  obtain ⟨-, hlen⟩ := (hsound i pt hpt).buffers hs
  rw [← hlen] at hfit
  refine ⟨t, _, he, ha, ?_, (splice_length _ _ _ hfit).trans hlen, splice_getElem? hfit, hd.otherSlotsKept ?_,
    hd.storeKept ⟨rfl, rfl⟩, hd.countsKept fun _ => rfl, hd.2⟩
  · simp [hd.point]
  · exact setPoint_otherSlotsKept (s.setGrant (.port p)) i _

/-! ## A publication -/

/-- The CHANGED notice, by filter `f`, of the commit that comes next on the point (R39, R72). -/
def Point.changedNotice (pt : Point) (i : Slot) (f : FilterNo) : Notice := .changed i pt.key (nextVersion pt.version) f false

/-- The point `pt` in slot `i` was published: its pending buffer is the committed value, CHANGED was delivered to its watchers and
FRESH armed anew (R32, R39, R43). -/
structure Published (s t : State) (i : Slot) (pt : Point) : Prop where
  point : t.point i = some (pt.republished pt.pendingBuf (s.deliveries pt .changed (pt.changedNotice i)))
  others : OtherSlotsKept s t i
  queues : QueuesAre t fun q => (s.delivery pt .changed (pt.changedNotice i) q).1
  deadlines : DeadlinesAre s t (s.freshArmed i pt (s.timer.deadlines.filter fun d => !d.names i .fresh))

/-- A commit leaves the flag of an open update to the command; on a point without one it is the publication of the pending buffer. -/
theorem committedPending_republished {pt : Point} (hu : pt.updateOpen = false) (n : Nat) :
    { pt.committedPending with refs := pt.refs + n } = pt.republished pt.pendingBuf n := by
  simp [Point.committedPending, Point.republished, nextVersion, hu]

/-- The deliveries of an event depend on the point's owner, readers and key, the notice unit and who is mute (R73). -/
theorem delivery_of_same {s t : State} {pt pt' : Point} (hn : t.notices = s.notices) (hs : t.standing = s.standing)
    (ho : pt'.owner = pt.owner) (hr : pt'.readers = pt.readers) (hk : pt'.key = pt.key) (k : WatchKind) (mk : FilterNo → Notice) :
    t.delivery pt' k mk = s.delivery pt k mk := by
  funext q
  refine delivery_congr s t pt pt' k mk q ?_ ?_ ?_ ho hr hk
  · simp [State.mute, State.record, hs]
  · simp [State.filters, hn]
  · simp [State.queue, hn]

theorem deliveries_of_same {s t : State} {pt pt' : Point} {k : WatchKind} {mk : FilterNo → Notice}
    (h : t.delivery pt' k mk = s.delivery pt k mk) : t.deliveries pt' k mk = s.deliveries pt k mk := by
  unfold State.deliveries; rw [h]

/-- A point's FRESH entry leaves, and a new one is armed if it has an interval (R97). -/
def State.renewFresh (s : State) (i : Slot) (pt : Point) : State :=
  if pt.fresh = 0 then s.disarm i .fresh else s.arm i .fresh pt.fresh.toNat

theorem renewFresh_point (s : State) (i : Slot) (pt : Point) (j : Slot) : (s.renewFresh i pt).point j = s.point j := by
  unfold State.renewFresh; split <;> simp

theorem renewFresh_keeps (s : State) (i : Slot) (pt : Point) :
    (s.renewFresh i pt).notices = s.notices ∧ (s.renewFresh i pt).standing = s.standing := by
  unfold State.renewFresh; split <;> exact ⟨rfl, rfl⟩

theorem renewFresh_timer (s : State) (i : Slot) (pt : Point) :
    DeadlinesAre s (s.renewFresh i pt) (s.freshArmed i pt (s.timer.deadlines.filter fun d => !d.names i .fresh)) := by
  unfold DeadlinesAre State.renewFresh State.freshArmed
  split
  · exact disarm_timer ..
  · rw [arm_timer, BitVec.ofNat_toNat]

/-- A publication is the exchange of the buffers, then the new deadline, then the routing of CHANGED (R39, R43). -/
theorem publish_eq {s : State} {i : Slot} {pt : Point} (h : s.point i = some pt) :
    s.publish i = ((s.setPoint i (some pt.committedPending)).renewFresh i pt).route i .changed (pt.changedNotice i) := by
  have hp : ((s.setPoint i (some pt.committedPending)).renewFresh i pt).point i = some pt.committedPending := by
    rw [renewFresh_point]; simp
  calc s.publish i = ((s.setPoint i (some pt.committedPending)).renewFresh i pt).routeChanged i := by
        unfold State.publish; rw [h]; rfl
    _ = _ := by unfold State.routeChanged; rw [hp]; rfl

theorem publish_published {s : State} {i : Slot} {pt : Point} (h : s.point i = some pt) (hu : pt.updateOpen = false) :
    Published s (s.publish i) i pt := by
  rw [publish_eq h]
  set u := (s.setPoint i (some pt.committedPending)).renewFresh i pt with hudef
  have hpoint : ∀ j, u.point j = if i = j then some pt.committedPending else s.point j := fun j => by
    rw [hudef, renewFresh_point, setPoint_point]
  obtain ⟨hn, hs⟩ := renewFresh_keeps (s.setPoint i (some pt.committedPending)) i pt
  have hdel : u.delivery pt.committedPending .changed (pt.changedNotice i) = s.delivery pt .changed (pt.changedNotice i) :=
    delivery_of_same hn hs rfl rfl rfl _ _
  obtain ⟨hq, hi, hj⟩ := route_spec u i .changed (pt.changedNotice i) (fun _ => rfl) pt.committedPending ((hpoint i).trans (if_pos rfl))
  rw [deliveries_of_same hdel] at hi
  refine ⟨hi.trans (congrArg some (committedPending_republished hu _)), fun j hji => ?_, fun q => ?_, ?_⟩
  · rw [hj j hji, hpoint, if_neg (Ne.symm hji)]
  · rw [hq, hdel]
  · unfold DeadlinesAre
    rw [route_timer]
    exact renewFresh_timer (s.setPoint i (some pt.committedPending)) i pt

/-! ## COMMIT, DISCARD and PUT -/

/-- A slot's entries are those of its HOLD and of its FRESH deadline (R95). -/
theorem filter_hold_fresh (i : Slot) (l : List Deadline) :
    (l.filter fun d => !d.names i .hold).filter (fun d => !d.names i .fresh) = l.filter fun d => d.slot != i := by
  rw [List.filter_filter]
  refine List.filter_congr fun d _ => ?_
  by_cases hi : d.slot = i
  · cases hk : d.kind <;> simp [Deadline.names, hi, hk]
  · simp [Deadline.names, bne, beq_eq_false_iff_ne.mpr hi]

theorem DeadlinesAre.trans {s u t : State} {l m : List Deadline} (h : DeadlinesAre s u l) (h' : DeadlinesAre u t m) :
    DeadlinesAre s t m := by
  unfold DeadlinesAre at *; rw [h', h]

/-- A new FRESH entry's place depends on the tick counter, which no change of the list moves. -/
theorem freshArmed_of_kept {s u : State} {m : List Deadline} (h : DeadlinesAre s u m) {pt pt' : Point} (hf : pt'.fresh = pt.fresh)
    (i : Slot) (l : List Deadline) : u.freshArmed i pt' l = s.freshArmed i pt l := by
  unfold State.freshArmed; rw [h, hf]

/-- What closing an open update does, said of the slot, the count and the deadline list at once (R33). -/
theorem closeUpdate_of_open {s : State} {i : Slot} {pt : Point} (h : s.point i = some pt) (hu : pt.updateOpen = true) :
    (s.closeUpdate i).point i = some { pt with updateOpen := false } ∧ OtherSlotsKept s (s.closeUpdate i) i ∧
    CountIs s (s.closeUpdate i) pt.owner (s.openUpdates pt.owner - 1) ∧
    DeadlinesAre s (s.closeUpdate i) (s.timer.deadlines.filter fun d => !d.names i .hold) := by
  refine ⟨by simp [h], fun j hj => by simp [Ne.symm hj], ⟨?_, fun q hq => ?_⟩, ?_⟩
  · simp [closeUpdate_openUpdates, h, hu]
  · simp [closeUpdate_openUpdates, h, Ne.symm hq]
  · unfold DeadlinesAre; simp [closeUpdate_timer, h, hu]

/-- Settles O26: a DISCARD is the closing of the update (`closeUpdate_of_open`). -/
theorem discardTaken : Obligations.DiscardTaken := by
  intro s p tag i pt hp hpt
  obtain ⟨ht, hr⟩ := hp
  obtain ⟨ho, hs, hu⟩ := (discard_passes_iff hpt).mp hr
  have hop : discardOp p i (s.setGrant (.port p)) = ((s.setGrant (.port p)).closeUpdate i, .ok []) := by
    simp [discardOp, hpt, ho, hs, hu]
  obtain ⟨t, he, ha, hd⟩ := passed_answered ht rfl hop (by simp) (by simp) (by simp) (by simp) (by simp)
  obtain ⟨hpoint, hothers, hcount, hdeadlines⟩ := closeUpdate_of_open (s := s.setGrant (.port p)) hpt hu
  subst ho
  exact ⟨t, he, ha, (hd.point i).trans hpoint, hd.otherSlotsKept hothers, hd.storeKept ⟨by simp, by simp⟩, hd.countIs hcount,
    by simp [hd.2.1], hd.deadlinesAre hdeadlines⟩

/-- Settles O25: the update is closed (`closeUpdate_of_open`), then the pending buffer published (`publish_published`). -/
theorem commitTaken : Obligations.CommitTaken := by
  intro s p tag i pt hp hpt
  obtain ⟨ht, hr⟩ := hp
  obtain ⟨hl, ho, hs, hu⟩ := (commit_passes_iff hpt).mp hr
  have hop : commitOp p i (s.setGrant (.port p)) =
      (((s.setGrant (.port p)).closeUpdate i).publish i, .ok (bytes2 (nextVersion pt.version))) := by
    simp [commitOp, hl, hpt, ho, hs, hu]
  obtain ⟨t, he, ha, hd⟩ := passed_answered ht rfl hop (by simp) (by simp) (by simp) (by simp) (by simp)
  obtain ⟨hclosed, hothers, hcount, hdeadlines⟩ := closeUpdate_of_open (s := s.setGrant (.port p)) hpt hu
  set c := (s.setGrant (.port p)).closeUpdate i with hc
  have hpub := publish_published hclosed rfl
  have hdel : c.delivery { pt with updateOpen := false } .changed (pt.changedNotice i) =
      s.delivery pt .changed (pt.changedNotice i) :=
    delivery_of_same (by simp [hc]) (by simp [hc]) rfl rfl rfl _ _
  subst ho
  refine ⟨t, nextVersion pt.version, pt.changedNotice i, he, rfl, fun _ => rfl, ha, ?_, hd.otherSlotsKept (hothers.trans hpub.others),
    hd.storeKept ?_, hd.countIs ?_, hd.filtersKept ?_, hd.queuesAre ?_, hd.deadlinesAre ?_⟩
  · rw [hd.point, ← deliveries_of_same hdel]; exact hpub.point
  · exact ⟨by simp [hc], by simp [hc]⟩
  · exact ⟨by simpa using hcount.1, by simpa using hcount.2⟩
  · exact fun q => by simp [hc]
  · rw [← hdel]; exact hpub.queues
  · have hlist : c.timer.deadlines = s.timer.deadlines.filter fun d => !d.names i .hold := congrArg Timer.deadlines hdeadlines
    have hfresh := fun l => freshArmed_of_kept (s := s) (pt := pt) (pt' := { pt with updateOpen := false }) hdeadlines rfl i l
    rw [← filter_hold_fresh, ← hlist, ← hfresh]
    exact hdeadlines.trans hpub.deadlines

/-- Settles O27: the new value is built in the pending buffer and published (`publish_published`). -/
theorem putTaken : Obligations.PutTaken := by
  intro s p tag i offset data pt hsound hp hpt
  obtain ⟨ht, hr⟩ := hp
  obtain ⟨hl, ho, hs, hu, hfit⟩ := (put_passes_iff hpt).mp hr
  set b := (s.setGrant (.port p)).setPoint i (some { pt with pendingBuf := splice pt.committed offset.toNat data }) with hb
  have hop : putOp p i offset data (s.setGrant (.port p)) = (b.publish i, .ok (bytes2 (nextVersion pt.version))) := by
    simp [putOp, hl, hpt, ho, hs, hu, not_lt.mpr hfit, hb]
  obtain ⟨t, he, ha, hd⟩ := passed_answered ht rfl hop (by simp [hb]) (by simp [hb]) (by simp [hb]) (by simp [hb]) (by simp [hb])
  obtain ⟨hlen, -⟩ := (hsound i pt hpt).buffers hs
  rw [← hlen] at hfit
  have hpub : Published b (b.publish i) i _ := publish_published ((setPoint_point _ i i _).trans (if_pos rfl)) hu
  have hdel : b.delivery { pt with pendingBuf := splice pt.committed offset.toNat data } .changed (pt.changedNotice i) =
      s.delivery pt .changed (pt.changedNotice i) :=
    delivery_of_same rfl rfl rfl rfl rfl _ _
  refine ⟨t, _, nextVersion pt.version, pt.changedNotice i, he, (splice_length _ _ _ hfit).trans hlen, splice_getElem? hfit, rfl,
    fun _ => rfl, ha, ?_, hd.otherSlotsKept ?_, hd.storeKept ?_, hd.countsKept ?_, hd.filtersKept ?_, hd.queuesAre ?_,
    hd.deadlinesAre hpub.deadlines⟩
  · rw [hd.point, ← deliveries_of_same hdel]; exact hpub.point
  · exact (setPoint_otherSlotsKept (s.setGrant (.port p)) i _).trans hpub.others
  · exact ⟨by simp [hb], by simp [hb]⟩
  · exact fun q => by simp [hb]
  · exact fun q => by simp [hb]
  · rw [← hdel]; exact hpub.queues

/-! ## REFRESH -/

/-- An offer to one port moves its queue and no other, and nothing if the port is mute (R76 to R78). -/
theorem offer_queuesAre (s : State) (p : Port) (n : Notice) : QueuesAre (s.offer p n) fun q => (s.offered p n q).1 := by
  intro q
  rw [offer_queue]
  unfold State.offered
  by_cases hq : p = q
  · subst hq; split <;> simp_all
  · simp [hq, Ne.symm hq]

/-- The slot that an offered notice names is referred to once more exactly when the notice was appended (R19). -/
theorem offer_point_named {s : State} {i : Slot} {pt : Point} (h : s.point i = some pt) (p : Port) {n : Notice}
    (hn : n.slot? = some i) :
    (s.offer p n).point i = some { pt with refs := pt.refs + if (s.offered p n p).2 then 1 else 0 } ∧
    OtherSlotsKept s (s.offer p n) i := by
  refine ⟨?_, fun j hj => ?_⟩
  · rw [offer_point]
    unfold State.offered
    cases hm : s.mute p <;> cases ha : (offerQueue (s.queue p) n).2 <;> simp [hn, h, ha]
  · rw [offer_point, if_neg]
    rintro ⟨-, -, hs⟩
    exact hj (Option.some.inj (hs.symm.trans hn))

/-- Settles O28: with the flag set nothing happens, with the flag clear it is set and REFRESH offered (`offer_point_named`,
`offer_queuesAre`). -/
theorem refreshTaken : Obligations.RefreshTaken := by
  intro s p tag i pt hp hpt
  obtain ⟨ht, hr⟩ := hp
  obtain ⟨hl, hread, hs, ho⟩ := (refresh_passes_iff hpt).mp hr
  cases hf : pt.refreshPending with
  | true =>
    have hop : refreshOp p i (s.setGrant (.port p)) = (s.setGrant (.port p), .ok [0x02]) := by
      simp [refreshOp, hl, hpt, hread, hs, ho, hf]
    obtain ⟨t, he, ha, hd⟩ := passed_answered ht rfl hop (fun _ => rfl) rfl rfl rfl rfl
    exact ⟨t, he, fun _ => ⟨ha, hd⟩, nofun⟩
  | false =>
    set b := (s.setGrant (.port p)).setPoint i (some { pt with refreshPending := true }) with hb
    have hop : refreshOp p i (s.setGrant (.port p)) = (b.offer pt.owner (.refresh i pt.key false), .ok [0x01]) := by
      simp [refreshOp, hl, hpt, hread, hs, ho, hf, hb]
    obtain ⟨t, he, ha, hd⟩ := passed_answered ht rfl hop (by simp [hb]) (by simp [hb]) (by simp [hb]) (by simp [hb]) (by simp [hb])
    have hpoint : b.point i = some { pt with refreshPending := true } := by simp [hb]
    obtain ⟨hnamed, hothers⟩ := offer_point_named hpoint pt.owner (n := .refresh i pt.key false) rfl
    refine ⟨t, he, nofun, fun _ => ⟨ha, (hd.point i).trans hnamed, hd.otherSlotsKept ?_, hd.storeKept ?_, hd.countsKept ?_,
      hd.filtersKept ?_, hd.queuesAre (offer_queuesAre b _ _), ?_⟩⟩
    · exact (setPoint_otherSlotsKept (s.setGrant (.port p)) i _).trans hothers
    · exact ⟨by simp [hb], by simp [hb]⟩
    · exact fun q => by simp [hb]
    · exact fun q => by simp [hb]
    · simp [hd.2.2, hb]

end Sys2Proof.Machine
end

section
/-! SUPPORT. The reading commands FIND, READ and SCAN where they are answered OK, and the refusals of the reading, watching and
supervisor-only commands in the order of their rules. -/

namespace Sys2Proof.Machine

/-! ## Keys in the index -/

theorem IndexExact.keys_nodup {s : State} (h : IndexExact s) : (s.dir.index.map (·.1)).Nodup :=
  List.pairwise_map.mpr (h.1.imp BitVec.ne_of_lt)

/-- Two entries of an exact index that hold one key are one entry. -/
theorem IndexExact.eq_of_key {s : State} (h : IndexExact s) {e f : Key × Slot} (he : e ∈ s.dir.index) (hf : f ∈ s.dir.index)
    (hk : e.1 = f.1) : e = f :=
  List.inj_on_of_nodup_map h.keys_nodup he hf hk

/-- In an exact index the key of a point is found, and leads to the point's slot (R10, R13). -/
theorem IndexExact.lookupKey_of_point {s : State} (h : IndexExact s) {i : Slot} {pt : Point} (hp : s.point i = some pt) :
    s.lookupKey pt.key = some i := by
  have hm : (pt.key, i) ∈ s.dir.index := h.2.2 i pt hp
  cases hf : s.dir.index.find? fun e => e.1 == pt.key with
  | none => exact absurd (List.find?_eq_none.mp hf _ hm) (by simp)
  | some e =>
    have hk : e.1 = pt.key := by simpa using List.find?_some hf
    rw [State.lookupKey, hf, h.eq_of_key (List.mem_of_find?_eq_some hf) hm hk]
    rfl

/-- Agreement under a mask, bit by bit (R13, R60). -/
theorem keyAgrees_iff {k key mask : Key} :
    keyAgrees k key mask = true ↔ ∀ b, b < 24 → mask.getLsbD b = true → k.getLsbD b = key.getLsbD b := by
  unfold keyAgrees
  rw [beq_iff_eq]
  refine ⟨fun h b _ hm => ?_, fun h => BitVec.eq_of_getLsbD_eq fun b hb => ?_⟩
  · simpa [hm] using congrArg (·.getLsbD b) h
  · cases hm : mask.getLsbD b with
    | false => simp [hm]
    | true => simp [hm, h b hb hm]

/-- The ordered walk yields the entries that agree under the mask and are above "after" (R13, R60). -/
theorem mem_walkIndex {l : List (Key × Slot)} {key mask : Key} {after : Option Key} {e : Key × Slot} :
    e ∈ walkIndex l key mask after ↔
      e ∈ l ∧ (∀ b, b < 24 → mask.getLsbD b = true → e.1.getLsbD b = key.getLsbD b) ∧ ∀ a, after = some a → a < e.1 := by
  rw [walkIndex, List.mem_filter, Bool.and_eq_true_iff, keyAgrees_iff]
  cases after <;> simp

/-- The walk of an exact index is the one sublist that holds exactly the entries R60 asks for. -/
theorem IndexExact.walkIndex_eq {s : State} (h : IndexExact s) {key mask : Key} {after : Option Key} {found : List (Key × Slot)}
    (hsub : found.Sublist s.dir.index)
    (hmem : ∀ e ∈ s.dir.index, e ∈ found ↔
      (∀ b, b < 24 → mask.getLsbD b = true → e.1.getLsbD b = key.getLsbD b) ∧ (∀ a, after = some a → a < e.1)) :
    walkIndex s.dir.index key mask after = found := by
  have hw : (walkIndex s.dir.index key mask after).Sublist s.dir.index := List.filter_sublist
  have hn : s.dir.index.Nodup := h.keys_nodup.of_map
  have hperm : (walkIndex s.dir.index key mask after).Perm found :=
    (List.perm_ext_iff_of_nodup (hn.sublist hw) (hn.sublist hsub)).mpr fun e => by
      rw [mem_walkIndex]
      exact ⟨fun ⟨he, hq⟩ => (hmem e he).mpr hq, fun he => ⟨hsub.subset he, (hmem e (hsub.subset he)).mp he⟩⟩
  exact hperm.eq_of_pairwise (fun a b _ _ hab hba => absurd hab (BitVec.lt_asymm hba)) (h.1.sublist hw) (h.1.sublist hsub)

/-! ## FIND -/

/-- The version of a FIND record or SCAN entry, byte by byte (R181). -/
theorem versionField_eq (pt : Point) (p : Port) :
    versionField pt p =
      [if pt.isReader p then pt.version.extractLsb' 8 8 else 0, if pt.isReader p then pt.version.extractLsb' 0 8 else 0] := by
  unfold versionField
  split <;> rfl

/-- Four flags, each in its bit of the FIND record's flags byte (R181). -/
theorem flagsByte_eq (updateOpen refreshPending orphaned reader : Bool) :
    bit updateOpen ||| bit refreshPending <<< 1 ||| bit orphaned <<< 2 ||| bit reader <<< 7 =
      (if updateOpen then 0x01 else 0) ||| (if refreshPending then 0x02 else 0) ||| (if orphaned then 0x04 else 0) |||
        (if reader then 0x80 else 0) := by
  revert updateOpen refreshPending orphaned reader
  decide

/-- A FIND that names a point, by slot or by key, reports the point's record (R57). -/
theorem findOp_of_point {s : State} (h : IndexExact s) {target : FindBy} {i : Slot} {pt : Point} (hp : s.point i = some pt)
    (ht : target = .slot i ∨ target = .key pt.key) (p : Port) : findOp p target s = (s, .ok (findRecord i pt p)) := by
  rcases ht with rfl | rfl
  · simp only [findOp, hp]
  · simp only [findOp, h.lookupKey_of_point hp, hp]

/-- Settles O19: the record that `findOp_of_point` gives, with its flags and its version written out. -/
theorem findTaken : Obligations.FindTaken := by
  intro s p tag target i pt hs ht hp htarget
  have hop : findOp p target (s.setGrant (.port p)) = (s.setGrant (.port p), .ok (findRecord i pt p)) :=
    findOp_of_point (s := s.setGrant (.port p)) hs hp htarget p
  obtain ⟨t, he, ha, hd⟩ := passed_answered ht rfl hop (fun _ => rfl) rfl rfl rfl rfl
  rw [findRecord, flagsByte_eq, versionField_eq] at ha
  exact ⟨t, he, hd, ha⟩

/-! ## READ -/

/-- The refusals of R52, all denied: a READ of this point is carried out. -/
theorem read_passes_iff {s : State} {p : Port} {i : Slot} {pt : Point} (h : s.point i = some pt) {offset length : Byte} :
    firstRefusal (s.refusals p (.read i offset length)) = .ok ↔
      pt.isReader p = true ∧ pt.state ≠ .retiring ∧ pt.state ≠ .vacant ∧
        ¬(length.toNat = 0 ∨ 16 < length.toNat ∨ pt.width < offset.toNat + length.toNat) := by
  refine (firstRefusal_cons_eq_ok_iff (by decide)).trans ?_
  simp [firstRefusal_cons_eq_ok_iff, holds_of_some h, h]

/-- The state byte of a READ answer (R53, R177). -/
theorem PointState.code_of_valued {st : PointState} (hr : st ≠ .retiring) (hv : st ≠ .vacant) :
    st = .live ∧ st.code = 0x02 ∨ st = .stale ∧ st.code = 0x03 := by
  cases st with
  | live => exact .inl ⟨rfl, rfl⟩
  | stale => exact .inr ⟨rfl, rfl⟩
  | retiring => exact (hr rfl).elim
  | vacant => exact (hv rfl).elim

/-- Settles O20: a sound point's committed buffer is as wide as the point, so that the range asked for lies in it. -/
theorem readTaken : Obligations.ReadTaken := by
  intro s p tag i offset length pt hsound hp hpt
  obtain ⟨ht, hr⟩ := hp
  obtain ⟨hread, hs, hv, hrange⟩ := (read_passes_iff hpt).mp hr
  have hop : readOp p i offset length (s.setGrant (.port p)) =
      (s.setGrant (.port p),
        .ok (bytes2 pt.version ++ [pt.state.code] ++ (pt.committed.drop offset.toNat).take length.toNat)) := by
    simp only [readOp, setGrant_point, hpt, hread, hs, hv, Bool.not_true, Bool.false_eq_true, if_false]
    exact if_neg hrange
  obtain ⟨t, he, ha, hd⟩ := passed_answered ht rfl hop (fun _ => rfl) rfl rfl rfl rfl
  obtain ⟨hlen, -⟩ := (hsound i pt hpt).buffers hs
  refine ⟨t, _, (pt.committed.drop offset.toNat).take length.toNat, he, ha, PointState.code_of_valued hs hv, ?_, fun k hk => ?_, hd⟩
  · rw [List.length_take, List.length_drop]; omega
  · rw [List.getElem?_take_of_lt hk, List.getElem?_drop]

/-! ## SCAN -/

/-- A SCAN entry, with bit 7 of the state byte and the version for a reader alone (R181). -/
theorem scanEntry_eq (key : Key) (i : Slot) (pt : Point) (p : Port) :
    scanEntry key i pt p = keyBytes key ++ [slotByte i] ++
      if pt.isReader p then [pt.state.code ||| 0x80, pt.version.extractLsb' 8 8, pt.version.extractLsb' 0 8]
      else [pt.state.code, 0, 0] := by
  unfold scanEntry versionField
  cases pt.isReader p with
  | true => cases pt.state <;> rfl
  | false => cases pt.state <;> rfl

/-- Every entry of an exact index names a point, and is reported with it (R61). -/
theorem IndexExact.scanEntries_eq {s : State} (h : IndexExact s) (p : Port) {l : List (Key × Slot)} (hl : l ⊆ s.dir.index)
    {f : Key × Slot → List Byte} (hf : ∀ e pt, s.point e.2 = some pt → f e = scanEntry e.1 e.2 pt p) :
    scanEntries p s l = l.flatMap f := by
  refine List.flatMap_congr fun e he => ?_
  obtain ⟨-, hpoint, -⟩ := h
  obtain ⟨pt, hp, -⟩ := hpoint e (hl he)
  rw [hf e pt hp, Option.mem_def.mp hp]

/-- "More" is set exactly when the list is longer than the count (R62). -/
theorem moreByte_eq (n count : Nat) : bit (decide (min count n < n)) = if count < n then 0x01 else 0x00 := by
  by_cases h : count < n
  · rw [if_pos h, decide_eq_true (by omega)]; rfl
  · rw [if_neg h, decide_eq_false (by omega)]; rfl

/-- Settles O21: the model's walk is the list found (`IndexExact.walkIndex_eq`), and each of its entries names a point. -/
theorem scanTaken : Obligations.ScanTaken := by
  intro s p tag key mask after count found hs hp hsub hmem
  obtain ⟨ht, hr⟩ := hp
  obtain ⟨hcount, -⟩ := firstRefusal_cons_eq_ok hr (by decide)
  have hop : scanOp p key mask after count (s.setGrant (.port p)) =
      (s.setGrant (.port p), .ok ([BitVec.ofNat 8 (found.take count.toNat).length,
        bit (decide ((found.take count.toNat).length < found.length))] ++ scanEntries p s (found.take count.toNat))) := by
    rw [← hs.walkIndex_eq hsub hmem]
    exact if_neg (of_decide_eq_false hcount)
  obtain ⟨t, he, ha, hd⟩ := passed_answered ht rfl hop (fun _ => rfl) rfl rfl rfl rfl
  refine ⟨t, he, hd, Eq.mp (congrArg (Answered s t p tag .scan .ok) ?_) ha⟩
  rw [List.length_take]
  refine congrArg₂ List.cons (by rw [min_comm]) (congrArg₂ List.cons (moreByte_eq _ _) ?_)
  refine hs.scanEntries_eq p (fun e he => hsub.subset (List.mem_of_mem_take he)) fun e pt hpt => ?_
  rw [hpt, scanEntry_eq]
  rfl

/-! ## Operand bytes that name a port or a filter -/

/-- A byte above 3 names no port (R118, R123, R142). -/
theorem portOf_eq_none {b : Byte} : portOf b = none ↔ 3 < b.toNat := by
  simp [portOf]; omega

/-- A byte above 7 names no filter (R69, R70). -/
theorem filterOf_eq_none {b : Byte} : filterOf b = none ↔ 7 < b.toNat := by
  simp [filterOf]; omega

theorem val_of_portOf {b : Byte} {q : Port} (h : portOf b = some q) : q.val = b.toNat := by
  unfold portOf at h
  split at h
  · exact congrArg Fin.val (Option.some.inj h).symm
  · cases h

/-- A test of the port that a byte names is the test of that one port. -/
theorem any_named_port {b : Byte} {q : Port} (h : portOf b = some q) (f : Port → Bool) :
    (allPorts.any fun r => r.val == b.toNat && f r) = f q := by
  rw [← val_of_portOf h, Bool.eq_iff_iff, List.any_eq_true]
  refine ⟨fun ⟨r, _, hr⟩ => ?_, fun hf => ⟨q, mem_allPorts q, by simp [hf]⟩⟩
  obtain ⟨hrq, hf⟩ := Bool.and_eq_true_iff.mp hr
  rwa [← Fin.ext (beq_iff_eq.mp hrq)]

/-! ## Refusals in their order -/

section
variable {s : State} {b : Byte} {st : Status} {l : List (Bool × Status)} {result : State × Reply}

theorem RefusesBy.noPort (h : portOf b = none) : RefusesBy ((decide (3 < b.toNat), st) :: l) s (s, .refuse st) :=
  .head (decide_eq_true (portOf_eq_none.mp h))

theorem RefusesBy.port {q : Port} (h : portOf b = some q) (hl : RefusesBy l s result) :
    RefusesBy ((decide (3 < b.toNat), st) :: l) s result :=
  .skip (decide_eq_false (by simp [← portOf_eq_none, h])) hl

theorem RefusesBy.noFilter (h : filterOf b = none) : RefusesBy ((decide (7 < b.toNat), st) :: l) s (s, .refuse st) :=
  .head (decide_eq_true (filterOf_eq_none.mp h))

theorem RefusesBy.filter {f : FilterNo} (h : filterOf b = some f) (hl : RefusesBy l s result) :
    RefusesBy ((decide (7 < b.toNat), st) :: l) s result :=
  .skip (decide_eq_false (by simp [← filterOf_eq_none, h])) hl

end

theorem refusals_find_key (s : State) (p : Port) (key : Key) :
    s.refusals p (.find (.key key)) = [(!allSlots.any fun i => s.holds i fun pt => pt.key == key, .noKey)] := rfl

theorem refusals_find_slot (s : State) (p : Port) (i : Slot) :
    s.refusals p (.find (.slot i)) = [((s.point i).isNone, .noSlot)] := rfl

theorem findOp_refuses {s : State} (h : IndexExact s) (p : Port) (target : FindBy) :
    RefusesBy (s.refusals p (.find target)) s (findOp p target s) := by
  cases target with
  | key key =>
    rw [refusals_find_key, ← h.lookupKey_isSome key]
    cases hk : s.lookupKey key with
    | none => simpa only [findOp, hk] using .head rfl
    | some i => exact .skip rfl .nil
  | slot i =>
    rw [refusals_find_slot]
    cases hp : s.point i with
    | none => simpa only [findOp, hp] using .head rfl
    | some pt => exact .skip rfl .nil

section
variable (p : Port) (s : State)

theorem readOp_refuses (i : Slot) (offset length : Byte) :
    RefusesBy (s.refusals p (.read i offset length)) s (readOp p i offset length s) := by
  unfold readOp
  split
  · next h => exact .head (by rw [h]; rfl)
  · next pt h =>
    exact .skip (by rw [h]; rfl) (.ite (by simp [holds_of_some h]) (.ite (by simp [holds_of_some h])
      (.ite (by simp [holds_of_some h]) (.ite (by simp [holds_of_some h, Config.maxTransfer]) .nil))))

theorem scanOp_refuses (key mask : Key) (after : Option Key) (count : BitVec 3) :
    RefusesBy (s.refusals p (.scan key mask after count)) s (scanOp p key mask after count s) :=
  .ite (by simp [Config.maxEntries]) .nil

theorem takeOp_refuses (count : Byte) : RefusesBy (s.refusals p (.take count)) s (takeOp p count s) :=
  .ite (by simp [Config.maxEntries]) .nil

theorem timingOp_refuses (tickdiv : Byte) (holdlim : BitVec 16) :
    RefusesBy (s.refusals p (.timing tickdiv holdlim)) s (timingOp p tickdiv holdlim s) :=
  .ite (by simp) (.ite (by simp [Config.maxHoldlim]) .nil)

theorem unwatchOp_refuses (filter : Byte) : RefusesBy (s.refusals p (.unwatch filter)) s (unwatchOp p filter s) := by
  unfold unwatchOp
  split
  · next h => exact .noFilter h
  · next f h => exact .filter h .nil

theorem watchOp_refuses (filter : Byte) (key mask : Key) (kinds : KindSet) :
    RefusesBy (s.refusals p (.watch filter key mask kinds)) s (watchOp p filter key mask kinds s) := by
  refine .ite (by rw [stands_limited]) ?_
  split
  · next h => exact .noFilter h
  · next f h => exact .filter h .nil

theorem flushOp_refuses (target : Byte) : RefusesBy (s.refusals p (.flush target)) s (flushOp p target s) := by
  refine .ite (by simp) ?_
  split
  · next h => exact .noPort h
  · next q h => exact .port h .nil

theorem restoreOp_refuses (target : Byte) : RefusesBy (s.refusals p (.restore target)) s (restoreOp p target s) := by
  refine .ite (by simp) ?_
  split
  · next h => exact .noPort h
  · next q h => exact .port h (.ite (by rw [any_named_port h]; simp) .nil)

theorem reassignOp_refuses (i : Slot) (target : Byte) :
    RefusesBy (s.refusals p (.reassign i target)) s (reassignOp p i target s) := by
  refine .ite (by simp) ?_
  split
  · next h => exact .noPort h
  · next q h =>
    refine .port h ?_
    split
    · next hp => exact .head (by rw [hp]; rfl)
    · next pt hp =>
      exact .skip (by rw [hp]; rfl) (.ite (by simp [holds_of_some hp]) (.ite (by rw [any_named_port h]; rfl) .nil))

end

/-- Every reading, watching and supervisor-only command answers the first refusal of its rule's order that applies. -/
theorem other_refuses {s : State} (h : IndexExact s) (p : Port) {r : Request}
    (hr : r.command ∈ [Command.find, .read, .scan, .watch, .unwatch, .take, .restore, .flush, .reassign, .timing]) :
    RefusesBy (s.refusals p r) s (requestOp p r s) := by
  cases r
  case find target => exact findOp_refuses h p target
  case read i offset length => exact readOp_refuses p s i offset length
  case scan key mask after count => exact scanOp_refuses p s key mask after count
  case watch filter key mask kinds => exact watchOp_refuses p s filter key mask kinds
  case unwatch filter => exact unwatchOp_refuses p s filter
  case take count => exact takeOp_refuses p s count
  case restore target => exact restoreOp_refuses p s target
  case flush target => exact flushOp_refuses p s target
  case reassign i target => exact reassignOp_refuses p s i target
  case timing tickdiv holdlim => exact timingOp_refuses p s tickdiv holdlim
  all_goals exact absurd hr (by simp [Request.command])

/-- Settles O15: each operation tests its refusals in the order of its rule (`other_refuses`). -/
theorem otherRefusals : Obligations.OtherRefusals := by
  intro s p tag r c hs ht hc hr hn
  have hs' : IndexExact (s.setGrant (.port p)) := hs
  exact refused_answered ht hc (other_refuses hs' p hr) hn

end Sys2Proof.Machine
end

section
/-! SUPPORT. What an offer does to one queue: coalescing by subject, appending, the GAP, and that the queue stays as R77 and R78 allow. -/

namespace Sys2Proof.Machine

/-! ## Subjects -/

/-- What a notice is about: its kind, and the slot or port it names (R77). -/
def Notice.subject (n : Notice) : Nat × Option Slot × Option Port := (n.kindNo, n.slot?, n.port?)

theorem subject_eq_iff {e n : Notice} :
    e.subject = n.subject ↔ e.kindNo = n.kindNo ∧ e.slot? = n.slot? ∧ e.port? = n.port? := by
  simp [Notice.subject]

theorem subject_eq_gap_iff {e : Notice} : e.subject = Notice.gap.subject ↔ e = .gap := by
  cases e <;> simp [Notice.subject, Notice.kindNo]

/-- A notice other than GAP is merged into exactly the entries about the same subject (R77). -/
theorem merges_of_subject_eq {e n : Notice} (hn : n ≠ .gap) (h : e.subject = n.subject) : ∃ m, Merges e n m := by
  obtain ⟨hk, hs, hp⟩ := subject_eq_iff.mp h
  cases n with
  | gap => exact (hn rfl).elim
  | standing r st o =>
    cases e <;> simp only [Notice.kindNo, Notice.port?, Nat.reduceEqDiff, Option.some.injEq] at hk hp
    subst hp
    exact ⟨_, .standing ..⟩
  | _ =>
    cases e <;> simp only [Notice.kindNo, Notice.slot?, Nat.reduceEqDiff, Option.some.injEq] at hk hs
    subst hs
    exact ⟨_, by constructor⟩

/-- A merged entry stays about the same subject, the offered notice's (R77, R82). -/
theorem Merges.subjects {e n m : Notice} (h : Merges e n m) : m.subject = e.subject ∧ e.subject = n.subject ∧ n ≠ .gap := by
  cases h <;> exact ⟨rfl, rfl, nofun⟩

/-- An entry absorbs none of the notices that are about something else, and no GAP (R77). -/
theorem absorb_eq_none_iff {e n : Notice} : e.absorb n = none ↔ (e.subject = n.subject → n = .gap) := by
  rw [Option.eq_none_iff_forall_ne_some]
  simp only [ne_eq, absorb_iff_merges]
  refine ⟨fun h hs => by_contra fun hn => ?_, fun h m hm => ?_⟩
  · obtain ⟨m, hm⟩ := merges_of_subject_eq hn hs
    exact h m hm
  · obtain ⟨-, hs, hn⟩ := hm.subjects
    exact hn (h hs)

/-! ## Coalescing in a queue -/

/-- A notice is not coalesced exactly when no entry absorbs it. -/
theorem coalesce_eq_none_iff {n : Notice} {q : List Notice} : coalesce n q = none ↔ ∀ e ∈ q, e.absorb n = none := by
  induction q with
  | nil => simp [coalesce]
  | cons e es ih =>
    rw [coalesce, List.forall_mem_cons, ← ih]
    cases e.absorb n <;> simp

/-- The first entry that absorbs the notice is replaced in its place. -/
theorem coalesce_append {n e m : Notice} {before : List Notice} (h : ∀ b ∈ before, b.absorb n = none) (hm : e.absorb n = some m)
    (after : List Notice) : coalesce n (before ++ e :: after) = some (before ++ m :: after) := by
  induction before with
  | nil => simp [coalesce, hm]
  | cons b bs ih =>
    rw [List.cons_append, coalesce, h b List.mem_cons_self]
    simp [ih fun c hc => h c (List.mem_cons_of_mem _ hc)]

/-- A coalesced notice leaves what every entry is about as it was (R82). -/
theorem coalesce_subjects {n : Notice} {q q' : List Notice} (h : coalesce n q = some q') :
    q'.map Notice.subject = q.map Notice.subject := by
  induction q generalizing q' with
  | nil => cases h
  | cons e es ih =>
    unfold coalesce at h
    split at h
    · next m hm =>
      cases h
      simp [((absorb_iff_merges e n m).mp hm).subjects.1]
    · obtain ⟨r, hr, rfl⟩ := Option.map_eq_some_iff.mp h
      simp [ih hr]

/-- A notice that no entry absorbs is dealt with by the queue's length (R78). -/
theorem offerQueue_of_new {q : List Notice} {n : Notice} (h : ∀ e ∈ q, e.absorb n = none) :
    offerQueue q n =
      if q.length < 15 then (q ++ [n], true)
      else if q.length = 15 ∧ q.getLast? ≠ some .gap then (q ++ [.gap], false)
      else (q, false) := by
  simp only [offerQueue, coalesce_eq_none_iff.mpr h]
  rfl

/-! ## Sound queues -/

/-- A queue is sound by its length and by what its entries are about (R77, R78). -/
theorem queueSound_iff {q : List Notice} :
    QueueSound q ↔ (q.map Notice.subject).length ≤ 16 ∧
      ((q.map Notice.subject).length = 16 → (q.map Notice.subject).getLast? = some Notice.gap.subject) ∧
      ((q.map Notice.subject).IsChain fun a b => ¬(a = Notice.gap.subject ∧ b = Notice.gap.subject)) ∧
      (q.map Notice.subject).Pairwise fun a b => a = b → b = Notice.gap.subject := by
  simp only [QueueSound, Config.queueDepth, List.length_map, List.getLast?_map, List.isChain_map, List.pairwise_map,
    absorb_eq_none_iff, subject_eq_gap_iff, Option.map_eq_some_iff, exists_eq_right]

/-- Soundness is not moved by a change that leaves what each entry is about. -/
theorem QueueSound.of_subjects {q q' : List Notice} (h : QueueSound q) (hs : q'.map Notice.subject = q.map Notice.subject) :
    QueueSound q' := by
  rw [queueSound_iff, hs, ← queueSound_iff]
  exact h

/-- What is left when the oldest entries are removed is sound (R84). -/
theorem QueueSound.left {gone left : List Notice} (h : QueueSound (gone ++ left)) : QueueSound left := by
  obtain ⟨hlen, hlast, hchain, hpair⟩ := h
  rw [List.length_append] at hlen hlast
  refine ⟨by omega, fun hl => ?_, hchain.right_of_append, (List.pairwise_append.mp hpair).2.1⟩
  obtain rfl : gone = [] := List.length_eq_zero_iff.mp (by omega)
  exact hlast (by omega)

/-- An entry of a new subject joins a queue of at most 14, and a GAP one of at most 15 that does not end in a GAP (R78). -/
theorem QueueSound.concat {q : List Notice} {n : Notice} (h : QueueSound q) (hlen : q.length < 16) (hlast : q.length = 15 → n = .gap)
    (hgap : n = .gap → q.getLast? ≠ some .gap) (habsorb : ∀ e ∈ q, e.absorb n = none) : QueueSound (q ++ [n]) := by
  obtain ⟨-, -, hchain, hpair⟩ := h
  refine ⟨by simpa [Config.queueDepth] using hlen, fun hl => ?_, ?_, ?_⟩
  · have : q.length = 15 := by simpa [Config.queueDepth] using hl
    simp [hlast this]
  · refine List.isChain_append.mpr ⟨hchain, .singleton n, fun e he b hb hc => ?_⟩
    obtain rfl : n = b := by simpa using hb
    exact hgap hc.2 (hc.1 ▸ he)
  · refine List.pairwise_append.mpr ⟨hpair, List.pairwise_singleton _ _, fun e he b hb => ?_⟩
    rw [List.mem_singleton.mp hb]
    exact habsorb e he

/-- An offered notice other than GAP leaves a sound queue sound (R77, R78). -/
theorem QueueSound.offer {q : List Notice} (h : QueueSound q) {n : Notice} (hn : n ≠ .gap) : QueueSound (offerQueue q n).1 := by
  fun_cases offerQueue q n with
  | case1 q' hc => exact h.of_subjects (coalesce_subjects hc)
  | case2 hc hlen =>
    simp only [Config.queueDepth, Nat.add_one_sub_one] at hlen
    exact h.concat (by omega) (by omega) (fun hg => (hn hg).elim) (coalesce_eq_none_iff.mp hc)
  | case3 hc hlen hlast =>
    obtain ⟨hl, hg⟩ := hlast
    simp only [Config.queueDepth] at hl
    exact h.concat (by omega) (fun _ => rfl) (fun _ => hg) fun e _ => absorb_eq_none_iff.mpr fun _ => rfl
  | case4 => exact h

/-- In a sound queue only one entry may absorb the notice, and it is replaced in its place (R77). -/
theorem QueueSound.offer_merges {before after : List Notice} {e n m : Notice} (h : QueueSound (before ++ e :: after))
    (hm : Merges e n m) : offerQueue (before ++ e :: after) n = (before ++ m :: after, false) := by
  obtain ⟨-, -, -, hpair⟩ := h
  obtain ⟨-, hs, hn⟩ := hm.subjects
  have hbefore : ∀ b ∈ before, b.absorb n = none := fun b hb => by
    have hbe := (List.pairwise_append.mp hpair).2.2 b hb e List.mem_cons_self
    rw [absorb_eq_none_iff] at hbe ⊢
    intro hbn
    exact subject_eq_gap_iff.mp (hs ▸ congrArg Notice.subject (hbe (hbn.trans hs.symm)))
  simp only [offerQueue, coalesce_append hbefore ((absorb_iff_merges e n m).mpr hm)]

/-- Settles O32: coalescing by `QueueSound.offer_merges`, else the queue's length decides; `QueueSound.offer` for the queue after it. -/
theorem noticesOffered : Obligations.NoticesOffered := by
  intro q n h hn
  refine ⟨?_, ?_, fun hnew => ?_, h.offer hn, fun s p hm => if_pos hm⟩
  · rintro before e after rfl hk hs hp
    obtain ⟨m, hm⟩ := merges_of_subject_eq hn (subject_eq_iff.mpr ⟨hk, hs, hp⟩)
    exact ⟨m, hm, h.offer_merges hm⟩
  · rintro before e after m rfl hm
    exact h.offer_merges hm
  · rw [offerQueue_of_new fun e he => absorb_eq_none_iff.mpr fun hs => (hnew e he (subject_eq_iff.mp hs)).elim]
    refine ⟨fun hl => ?_, fun hl hg => ?_, fun hl hg => ?_, fun hl => ?_⟩
    · rw [if_pos (by omega)]
    · rw [if_neg (by omega), if_pos ⟨hl, hg⟩]
    · rw [if_neg (by omega), if_neg fun hc => hc.2 hg]
    · rw [if_neg (by omega), if_neg fun hc => by omega]

end Sys2Proof.Machine
end

section
/-! SUPPORT. Every step keeps every queue as R77 and R78 allow. A queue changes by offers, by removals from its head and by resets alone;
no operation offers a GAP, and this is what the law of the queues needs beyond the changes of the directory. -/

namespace Sys2Proof.Machine

/-! ## Operations that touch no queue -/

theorem QueuesSound.of_queue {s t : State} (h : QueuesSound s) (hq : ∀ q, t.queue q = s.queue q) : QueuesSound t := fun q => by
  rw [hq]
  exact h q

theorem QueuesSound.of_untouched {s t : State} (hu : Untouched s t) (h : QueuesSound s) : QueuesSound t := h.of_queue hu.queue

theorem giveTo_queue (s : State) (i : Slot) (p q : Port) : (s.giveTo i p).queue q = s.queue q := by
  fun_cases State.giveTo s i p <;> simp

theorem orphan_queue (s : State) (i : Slot) (q : Port) : (s.orphan i).queue q = s.queue q := by
  fun_cases State.orphan s i <;> simp

theorem clearPort_queue (s : State) (p q : Port) : (s.clearPort p).queue q = s.queue q := by
  simp [State.clearPort]

theorem retirePoint_queue (s : State) (i : Slot) (q : Port) : (s.retirePoint i).queue q = s.queue q := by
  fun_cases State.retirePoint s i <;> simp

theorem createOp_queue (p : Port) (key : Key) (width : Byte) (readers : PortSet) (fresh : BitVec 16) (s : State) (q : Port) :
    (createOp p key width readers fresh s).1.queue q = s.queue q := by
  fun_cases createOp p key width readers fresh s <;> simp

theorem openOp_queue (p : Port) (i : Slot) (s : State) (q : Port) : (openOp p i s).1.queue q = s.queue q := by
  fun_cases openOp p i s <;> simp

theorem writeOp_queue (p : Port) (i : Slot) (offset : Byte) (data : List Byte) (s : State) (q : Port) :
    (writeOp p i offset data s).1.queue q = s.queue q := by
  fun_cases writeOp p i offset data s <;> simp

theorem discardOp_queue (p : Port) (i : Slot) (s : State) (q : Port) : (discardOp p i s).1.queue q = s.queue q := by
  fun_cases discardOp p i s <;> simp

theorem watchOp_queue (p : Port) (filter : Byte) (key mask : Key) (kinds : KindSet) (s : State) (q : Port) :
    (watchOp p filter key mask kinds s).1.queue q = s.queue q := by
  fun_cases watchOp p filter key mask kinds s <;> simp

theorem unwatchOp_queue (p : Port) (filter : Byte) (s : State) (q : Port) : (unwatchOp p filter s).1.queue q = s.queue q := by
  fun_cases unwatchOp p filter s <;> simp

theorem timingOp_queue (p : Port) (tickdiv : Byte) (holdlim : BitVec 16) (s : State) (q : Port) :
    (timingOp p tickdiv holdlim s).1.queue q = s.queue q := by
  fun_cases timingOp p tickdiv holdlim s <;> simp

/-! ## Offers and removals -/

section
variable {s : State} (h : QueuesSound s)
include h

theorem QueuesSound.offer (p : Port) {n : Notice} (hn : n ≠ .gap) : QueuesSound (s.offer p n) := fun q => by
  rw [offer_queue]
  split
  · exact (h p).offer hn
  · exact h q

/-- A fold keeps the queues sound when each of its turns does. -/
theorem QueuesSound.foldl {α : Type} {f : State → α → State} (hf : ∀ s a, QueuesSound s → QueuesSound (f s a)) (l : List α) :
    QueuesSound (l.foldl f s) := by
  induction l generalizing s with
  | nil => exact h
  | cons a l ih => exact ih (hf s a h)

/-- An event routed to its watchers is a series of offers (R73). -/
theorem QueuesSound.route (i : Slot) (k : WatchKind) {mk : FilterNo → Notice} (hmk : ∀ f, mk f ≠ .gap) :
    QueuesSound (s.route i k mk) := by
  refine h.foldl (fun s p h => ?_) allPorts
  fun_cases State.routeTo i k mk s p with
  | case3 pt hp f hf => exact h.offer p (hmk f)
  | _ => exact h

theorem QueuesSound.routeChanged (i : Slot) : QueuesSound (s.routeChanged i) := by
  fun_cases State.routeChanged s i with
  | case1 => exact h
  | case2 pt hp => exact h.route i _ fun _ => nofun

theorem QueuesSound.routeStale (i : Slot) : QueuesSound (s.routeStale i) := by
  fun_cases State.routeStale s i with
  | case1 => exact h
  | case2 pt hp => exact h.route i _ fun _ => nofun

theorem QueuesSound.routeRetired (i : Slot) : QueuesSound (s.routeRetired i) := by
  fun_cases State.routeRetired s i with
  | case1 => exact h
  | case2 pt hp => exact h.route i _ fun _ => nofun

theorem QueuesSound.routeOwner (o : Option Port) (i : Slot) : QueuesSound (State.routeOwner o s i) := by
  fun_cases State.routeOwner o s i with
  | case1 => exact h
  | case2 pt hp => exact h.route i _ fun _ => nofun

theorem QueuesSound.offerStanding (p : Port) (st : Standing) : QueuesSound (s.offerStanding p st) := h.offer _ nofun

/-- The oldest entries of one queue are removed (R84). -/
theorem QueuesSound.release {p : Port} {gone left : List Notice} (hq : s.queue p = gone ++ left) :
    QueuesSound ((s.setQueue p left).releaseRefs gone) := fun q => by
  rw [releaseRefs_queue, setQueue_queue]
  split
  · exact (hq ▸ h p).left
  · exact h q

theorem QueuesSound.flushQueue (p : Port) : QueuesSound (s.flushQueue p) := h.release (List.append_nil _).symm

/-! ## The operations that offer or remove -/

theorem QueuesSound.expireUpdate (i : Slot) : QueuesSound (s.expireUpdate i) := by
  fun_cases State.expireUpdate s i with
  | case2 pt hp hu => exact (h.of_queue (closeUpdate_queue s i)).offer _ nofun
  | _ => exact h

theorem QueuesSound.publish (i : Slot) : QueuesSound (s.publish i) := by
  unfold State.publish
  split
  · exact h
  · split
    · exact QueuesSound.routeChanged (h.of_queue fun q => by simp) i
    · exact QueuesSound.routeChanged (h.of_queue fun q => by simp) i

theorem QueuesSound.commitOp (p : Port) (i : Slot) : QueuesSound (commitOp p i s).1 := by
  fun_cases Machine.commitOp p i s with
  | case6 => exact (h.of_queue (closeUpdate_queue s i)).publish i
  | _ => exact h

theorem QueuesSound.putOp (p : Port) (i : Slot) (offset : Byte) (data : List Byte) : QueuesSound (putOp p i offset data s).1 := by
  fun_cases Machine.putOp p i offset data s with
  | case7 => exact QueuesSound.publish (h.of_queue fun q => setPoint_queue ..) i
  | _ => exact h

theorem QueuesSound.refreshOp (p : Port) (i : Slot) : QueuesSound (refreshOp p i s).1 := by
  fun_cases Machine.refreshOp p i s with
  | case7 => exact QueuesSound.offer (h.of_queue fun q => setPoint_queue ..) _ nofun
  | _ => exact h

theorem QueuesSound.retireOp (p : Port) (i : Slot) : QueuesSound (retireOp p i s).1 := by
  fun_cases Machine.retireOp p i s with
  | case5 =>
    have hr : QueuesSound ((s.closeUpdate i).retirePoint i) :=
      h.of_queue fun q => (retirePoint_queue _ i q).trans (closeUpdate_queue s i q)
    exact (hr.routeRetired i).of_queue (freeIfUnnamed_queue _ i)
  | _ => exact h

theorem QueuesSound.takeOp (p : Port) (count : Byte) : QueuesSound (takeOp p count s).1 := by
  fun_cases Machine.takeOp p count s with
  | case1 => exact h
  | case2 => exact h.release (List.take_append_drop _ _).symm

theorem QueuesSound.flushOp (p : Port) (target : Byte) : QueuesSound (flushOp p target s).1 := by
  fun_cases Machine.flushOp p target s with
  | case3 hp q => exact h.flushQueue q
  | _ => exact h

theorem QueuesSound.restoreOp (p : Port) (target : Byte) : QueuesSound (restoreOp p target s).1 := by
  fun_cases Machine.restoreOp p target s with
  | case4 => exact QueuesSound.offerStanding (h.of_queue fun q => by simp) _ _
  | _ => exact h

theorem QueuesSound.remindOwner (i : Slot) : QueuesSound (s.remindOwner i) := by
  fun_cases State.remindOwner s i with
  | case2 => exact h.offer _ nofun
  | _ => exact h

theorem QueuesSound.reassignOp (p : Port) (i : Slot) (target : Byte) : QueuesSound (reassignOp p i target s).1 := by
  fun_cases Machine.reassignOp p i target s with
  | case6 hp q => exact (((h.expireUpdate i).of_queue (giveTo_queue _ i q)).remindOwner i).routeOwner (some q) i
  | _ => exact h

theorem QueuesSound.expire (i : Slot) (k : DeadlineKind) : QueuesSound (s.expire i k) := by
  have hd := h.of_queue (disarm_queue s i k)
  cases k with
  | hold => exact hd.expireUpdate i
  | fresh =>
    rw [State.expire]
    fun_cases State.expireFresh s i with
    | case2 => exact QueuesSound.routeStale (hd.of_queue fun q => setPoint_queue ..) i
    | _ => exact hd

theorem QueuesSound.severPort (p : Port) : QueuesSound (s.severPort p) := by
  refine QueuesSound.offerStanding (QueuesSound.foldl ?_ (fun s i h => h.routeOwner none i) _) p .severed
  refine (QueuesSound.flushQueue ?_ p).of_queue (clearPort_queue _ p)
  refine QueuesSound.foldl ?_ (fun s i h => h.of_queue (orphan_queue s i)) _
  exact h.of_queue (dropUpdates_queue _ p)

theorem QueuesSound.restorePort (p : Port) : QueuesSound (s.restorePort p) := by
  refine QueuesSound.offerStanding (QueuesSound.foldl (h.of_queue fun q => by simp) (fun s i h => ?_) _) p .good
  fun_cases State.adopt p s i with
  | case1 => exact h
  | case2 pt hp => exact QueuesSound.routeOwner (h.of_queue fun q => setPoint_queue ..) _ i

/-! ## Every command -/

theorem QueuesSound.standingOp (r : StandingRequest) : QueuesSound (r.op s) := by
  cases r with
  | sever p => exact h.severPort p
  | restored p => exact h.restorePort p
  | change p => exact QueuesSound.offerStanding (h.of_queue fun q => setRecord_queue ..) p _

theorem QueuesSound.requestOp (p : Port) (r : Request) : QueuesSound (requestOp p r s).1 := by
  cases r with
  | nop => exact h
  | status => exact h
  | attend on => exact h.of_queue fun q => setEngine_queue ..
  | resend tag => exact h
  | create key width readers fresh => exact h.of_queue (createOp_queue p key width readers fresh s)
  | find target => exact h.of_queue fun q => by rw [Machine.requestOp, findOp_state]
  | read i offset length => exact h.of_queue fun q => by rw [Machine.requestOp, readOp_state]
  | scan key mask after count => exact h.of_queue fun q => by rw [Machine.requestOp, scanOp_state]
  | openUpdate i => exact h.of_queue (openOp_queue p i s)
  | write i offset data => exact h.of_queue (writeOp_queue p i offset data s)
  | commit i => exact h.commitOp p i
  | discard i => exact h.of_queue (discardOp_queue p i s)
  | put i offset data => exact h.putOp p i offset data
  | refresh i => exact h.refreshOp p i
  | retire i => exact h.retireOp p i
  | watch filter key mask kinds => exact h.of_queue (watchOp_queue p filter key mask kinds s)
  | unwatch filter => exact h.of_queue (unwatchOp_queue p filter s)
  | take count => exact h.takeOp p count
  | restore target => exact h.restoreOp p target
  | flush target => exact h.flushOp p target
  | reassign i target => exact h.reassignOp p i target
  | timing tickdiv holdlim => exact h.of_queue (timingOp_queue p tickdiv holdlim s)

theorem QueuesSound.happens {c : Instr} {t : State} (ht : Happens c s t) : QueuesSound t := by
  cases ht with
  | @taken p tag r hc ht =>
    obtain ⟨x, -, hm⟩ := requestOp_changes hc (s.setGrant (.port p))
    refine QueuesSound.of_untouched (handBack_untouched _ p tag r.command _ hm.requestsKept.grant) ?_
    exact QueuesSound.requestOp (h.of_queue fun q => setGrant_queue ..) p r
  | expired hc hr hg =>
    have hs : QueuesSound ((s.setTimer { s.timer with request := none }).setGrant .timer) :=
      h.of_queue fun q => by rw [setGrant_queue, setTimer_queue]
    split
    · exact hs.expire _ _
    · exact hs
  | stood hc hr hg =>
    refine (QueuesSound.standingOp ?_ _).of_untouched (presentHeld_untouched _)
    exact h.of_queue fun q => by rw [setGrant_queue, setLastPort_queue, setStandingRequest_queue]
  | reset hc hd hn => exact QueuesSound.of_untouched (.of_notices hd hn) queuesSound_reset
  | event hu hs hp => exact h.of_untouched hu

end

/-- Settles O56: a clock period touches no queue, and every command moves the queues by sound offers and removals
(`QueuesSound.happens`). -/
theorem queuesAlwaysSound : Obligations.QueuesAlwaysSound := by
  intro s t h hstep
  unfold step at hstep
  split at hstep
  · cases hstep
    exact h.of_untouched (clockPeriod_untouched s)
  · next c rest _ => exact QueuesSound.happens (s := { s with pending := rest }) h (exec_happens hstep)

end Sys2Proof.Machine
end

section
/-! SUPPORT. The watching commands where they pass their refusals, ATTEND with the attention line, and the routing of an event by the
filters. -/

namespace Sys2Proof.Machine

/-! ## The attention line -/

/-- The attention line, condition by condition (R87). -/
theorem attentionLine_iff (s : State) (q : Port) :
    s.attentionLine q = true ↔ s.queue q ≠ [] ∧ (s.engine q).attention = true ∧ (s.record q).standing ≠ .severed := by
  simp [State.attentionLine, and_assoc]

/-- An answer that leaves an engine does not move its attention enable (R88). -/
@[simp] theorem leaves_attention (e : Engine) (mute : Bool) (a : Answer) : (e.leaves mute a).attention = e.attention := by
  fun_cases Engine.leaves e mute a <;> rfl

theorem Answered.attention {s t : State} {p : Port} {tag : Byte} {c : Command} {st : Status} {body : List Byte}
    (h : Answered s t p tag c st body) : (t.engine p).attention = (s.engine p).attention := by
  obtain ⟨he, -⟩ := h
  rw [he]
  exact leaves_attention ..

/-- Settles O18: the enable is written before the answer leaves, which does not move it (`Answered.attention`). -/
theorem attendTaken : Obligations.AttendTaken := by
  intro s p tag on ht
  obtain ⟨ha, hd⟩ := handBack_answered (attendOp p on (s.setGrant (.port p))).1 p tag .attend (.ok []) rfl
  have ha' : Answered (s.setEngine p { s.engine p with attention := on }) _ p tag .attend .ok [] :=
    ha.of_same (fun _ => rfl) rfl rfl rfl
  exact ⟨_, grantPort_of_taken (attendOp p on) ht, ha', ha'.attention.trans (by simp), hd, attentionLine_iff _⟩

/-! ## WATCH and UNWATCH -/

/-- The refusals of R69, all denied: a WATCH is carried out. -/
theorem watch_passes_iff {s : State} {p : Port} {number : Byte} {key mask : Key} {kinds : KindSet} :
    firstRefusal (s.refusals p (.watch number key mask kinds)) = .ok ↔
      s.limited p = false ∧ ∃ f, filterOf number = some f := by
  refine (firstRefusal_cons_eq_ok_iff (by decide)).trans ?_
  rw [firstRefusal_cons_eq_ok_iff (by decide), stands_limited, decide_eq_false_iff_not, ← filterOf_eq_none,
    ← Option.ne_none_iff_exists']
  simp

/-- The refusal of R70, denied: an UNWATCH is carried out. -/
theorem unwatch_passes_iff {s : State} {p : Port} {number : Byte} :
    firstRefusal (s.refusals p (.unwatch number)) = .ok ↔ ∃ f, filterOf number = some f := by
  refine (firstRefusal_cons_eq_ok_iff (by decide)).trans ?_
  rw [decide_eq_false_iff_not, ← filterOf_eq_none, ← Option.ne_none_iff_exists']
  simp

theorem val_of_filterOf {b : Byte} {f : FilterNo} (h : filterOf b = some f) : f.val = b.toNat := by
  unfold filterOf at h
  split at h
  · exact congrArg Fin.val (Option.some.inj h).symm
  · cases h

/-- Filter `f` of port `p` becomes `x`. -/
def State.setFilter (s : State) (p : Port) (f : FilterNo) (x : Filter) : State :=
  s.setFilters p ((s.filters p).set f.val x f.isLt)

/-- A request that sets one filter of the asking port and is answered OK with no body changes no other filter, no queue and nothing of
the directory. -/
theorem setFilter_taken {s : State} {p : Port} {tag : Byte} {r : Request} {c : Instr} {f : FilterNo} {x : Filter}
    (ht : Taken s p tag r) (hc : r.taken p = some c)
    (hop : requestOp p r (s.setGrant (.port p)) = ((s.setGrant (.port p)).setFilter p f x, .ok [])) :
    ∃ t, exec c s = .next t ∧ Answered s t p tag r.command .ok [] ∧ (t.filters p).get f = x ∧
      (∀ g, g ≠ f → (t.filters p).get g = (s.filters p).get g) ∧ (∀ q, q ≠ p → t.filters q = s.filters q) ∧
      QueuesAre t s.queue ∧ t.dir = s.dir ∧ t.timer = s.timer := by
  obtain ⟨t, he, ha, hd⟩ := passed_answered ht hc hop (fun _ => rfl) rfl rfl rfl rfl
  have hf : ∀ q, t.filters q = if p = q then (s.filters p).set f.val x f.isLt else s.filters q := fun q =>
    (hd.filtersKept (s := (s.setGrant (.port p)).setFilter p f x) (fun _ => rfl) q).trans (setFilters_filters ..)
  refine ⟨t, he, ha, ?_, fun g hg => ?_, fun q hq => ?_, hd.queuesAre fun q => setFilters_queue .., hd.1, hd.2.2⟩
  · rw [hf, if_pos rfl, vector_get_set, if_pos rfl]
  · rw [hf, if_pos rfl, vector_get_set, if_neg (Ne.symm hg)]
  · rw [hf, if_neg (Ne.symm hq)]

/-- Settles O29: both commands set one filter (`setFilter_taken`), UNWATCH to the reset values. -/
theorem filtersTaken : Obligations.FiltersTaken := by
  intro s p tag number key mask kinds
  constructor
  · rintro ⟨ht, hr⟩
    obtain ⟨hl, f, hf⟩ := watch_passes_iff.mp hr
    have hop : watchOp p number key mask kinds (s.setGrant (.port p)) =
        ((s.setGrant (.port p)).setFilter p f { inUse := true, key := key, mask := mask, kinds := kinds }, .ok []) := by
      simp [watchOp, hl, hf, State.setFilter]
    obtain ⟨t, he, h⟩ := setFilter_taken ht rfl hop
    exact ⟨t, f, he, val_of_filterOf hf, h⟩
  · rintro ⟨ht, hr⟩
    obtain ⟨f, hf⟩ := unwatch_passes_iff.mp hr
    have hop : unwatchOp p number (s.setGrant (.port p)) = ((s.setGrant (.port p)).setFilter p f Filter.unused, .ok []) := by
      simp [unwatchOp, hf, State.setFilter]
    obtain ⟨t, he, h⟩ := setFilter_taken ht rfl hop
    exact ⟨t, f, he, val_of_filterOf hf, h⟩

/-! ## TAKE -/

/-- The refusal of R83, denied: a TAKE is carried out. -/
theorem take_passes_iff {s : State} {p : Port} {count : Byte} :
    firstRefusal (s.refusals p (.take count)) = .ok ↔ ¬(count.toNat = 0 ∨ 4 < count.toNat) := by
  refine (firstRefusal_cons_eq_ok_iff (by decide)).trans ?_
  simp

/-- Settles O30: the oldest entries leave the queue, and what they name is released as `releaseRefs_point` and `releaseRefs_index` say. -/
theorem takeTaken : Obligations.TakeTaken := by
  intro s p tag count hp
  obtain ⟨ht, hr⟩ := hp
  set gone := (s.queue p).take count.toNat with hgone
  set left := (s.queue p).drop count.toNat with hleft
  set b := (s.setGrant (.port p)).setQueue p left with hb
  have hop : takeOp p count (s.setGrant (.port p)) =
      (b.releaseRefs gone, .ok ([BitVec.ofNat 8 gone.length, BitVec.ofNat 8 left.length] ++ gone.flatMap Notice.encode)) :=
    if_neg (take_passes_iff.mp hr)
  obtain ⟨t, he, ha, hd⟩ := passed_answered ht rfl hop (by simp [hb]) (by simp [hb]) (by simp [hb]) (by simp [hb]) (by simp [hb])
  have hpoint : ∀ i, (b.releaseRefs gone).point i = drained (s.point i) (namedIn gone i) := releaseRefs_point b gone
  refine ⟨t, gone, left, he, (List.take_append_drop _ _).symm, List.length_take, ha, hd.queuesAre fun q => ?_,
    hd.filtersKept fun q => ?_, fun i => (hd.point i).trans (hpoint i), fun e => ?_, ?_, hd.countsKept fun q => ?_, ?_⟩
  · simp [hb, eq_comm]
  · simp [hb]
  · rw [hd.1, hd.point]
    exact releaseRefs_index b gone e
  · simp [hd.1, hb]
  · simp [hb]
  · simp [hd.2.2, hb]

/-! ## Routing by filters -/

/-- A filter matches by use, by the key's bits under its mask and by its kinds (R68). -/
theorem accepts_iff_filterMatches {s : State} {p : Port} {f : FilterNo} {k : WatchKind} {key : Key} :
    ((s.filters p).get f).accepts k key = true ↔ s.filterMatches p f k key := by
  simp only [Filter.accepts, State.filterMatches, Bool.and_eq_true, keyAgrees_iff, and_assoc]

/-- The lowest-numbered filter with a property (R73). -/
theorem find_allFilters_eq_some_iff {f : FilterNo} {m : FilterNo → Bool} :
    allFilters.find? m = some f ↔ m f = true ∧ ∀ g, g < f → ¬m g = true := by
  have hall : allFilters = List.finRange 8 := by decide
  simp only [hall, ← Fin.find?_eq_find?_finRange, Fin.find?_eq_some_iff, Bool.not_eq_true]

theorem mute_eq_false_iff {s : State} {p : Port} :
    s.mute p = false ↔ (s.record p).standing ≠ .severed ∧ (s.record p).severPending = false := by
  simp [State.mute, and_comm]

/-- The readers of a point are its owner and the ports of the readers set (R8). -/
theorem isReader_iff {pt : Point} {p : Port} : pt.isReader p = true ↔ pt.owner = p ∨ pt.readers.getLsbD p.val = true := by
  simp only [Point.isReader, Bool.or_eq_true, beq_iff_eq]

/-- An event reaches a port that is a reader and not cut off, by the lowest-numbered filter that matches (R8, R73, R76). -/
theorem routeFilter_eq_some_iff {s : State} {pt : Point} {k : WatchKind} {p : Port} {f : FilterNo} :
    s.routeFilter pt k p = some f ↔
      (s.record p).standing ≠ .severed ∧ (s.record p).severPending = false ∧ (pt.owner = p ∨ pt.readers.getLsbD p.val = true) ∧
      s.filterMatches p f k pt.key ∧ ∀ g, g < f → ¬s.filterMatches p g k pt.key := by
  have hcut : ¬(s.mute p || !pt.isReader p) = true ↔
      ((s.record p).standing ≠ .severed ∧ (s.record p).severPending = false) ∧ (pt.owner = p ∨ pt.readers.getLsbD p.val = true) := by
    rw [← mute_eq_false_iff, ← isReader_iff]
    simp
  simp only [State.routeFilter, Option.ite_none_left_eq_some, hcut, find_allFilters_eq_some_iff, accepts_iff_filterMatches, and_assoc]

/-- Settles O31: the filter by `routeFilter_eq_some_iff`, the queues, the point and the other slots by `route_spec`. -/
theorem eventsRouted : Obligations.EventsRouted := by
  intro s i k mk pt hmk hpt
  obtain ⟨hqueue, hpoint, hothers⟩ := route_spec s i k mk hmk pt hpt
  refine ⟨fun p f => routeFilter_eq_some_iff, fun p f hf => ?_, fun p hf => ?_, hpoint, hothers⟩
  · rw [hqueue, State.delivery, hf]
  · rw [hqueue, State.delivery, hf]

end Sys2Proof.Machine
end

section
/-! SUPPORT. The order of the deadline list (R96): one number for each entry's place, new entries put in their place, and the list when the
tick counter advances. -/

namespace Sys2Proof.Machine

/-! ## Places -/

theorem names_eq_true_iff {i : Slot} {k : DeadlineKind} {d : Deadline} : d.names i k = true ↔ d.slot = i ∧ d.kind = k := by
  simp [Deadline.names]

/-- One number for the place of an entry that is not yet due: by distance, then by slot, then HOLD before FRESH (R96). -/
def Deadline.place (now : BitVec 32) (d : Deadline) : Nat := (d.distance now * 256 + d.slot.val) * 2 + d.kind.rank

theorem rank_lt (k : DeadlineKind) : k.rank < 2 := by cases k <;> decide

theorem ahead_eq_true_iff {now : BitVec 32} {a b : Deadline} : a.ahead now b = true ↔ a.place now < b.place now := by
  have hka := rank_lt a.kind
  have hkb := rank_lt b.kind
  have hsa := a.slot.isLt
  have hsb := b.slot.isLt
  simp only [Deadline.ahead, Deadline.place, Bool.or_eq_true, Bool.and_eq_true, decide_eq_true_eq, beq_iff_eq, Fin.lt_def, Fin.ext_iff]
  omega

theorem ahead_eq_false_iff {now : BitVec 32} {a b : Deadline} : a.ahead now b = false ↔ b.place now ≤ a.place now := by
  rw [← Bool.not_eq_true, ahead_eq_true_iff, not_lt]

/-- An entry may stand ahead of another: due, or both not due and its place no later (R96). -/
def Deadline.Before (now : BitVec 32) (a b : Deadline) : Prop := a.due = false → b.due = false ∧ a.place now ≤ b.place now

theorem Deadline.Before.trans {now : BitVec 32} {a b c : Deadline} (h : a.Before now b) (h' : b.Before now c) : a.Before now c := by
  intro ha
  obtain ⟨hb, hab⟩ := h ha
  obtain ⟨hc, hbc⟩ := h' hb
  exact ⟨hc, hab.trans hbc⟩

/-! ## New entries -/

theorem insertDeadline_perm (now : BitVec 32) (d : Deadline) (l : List Deadline) : (insertDeadline now d l).Perm (d :: l) := by
  induction l with
  | nil => exact .refl _
  | cons x xs ih =>
    unfold insertDeadline
    split
    · exact .refl _
    · exact (ih.cons x).trans (.swap d x xs)

/-- A new entry that is not due leaves the due entries as they were. -/
theorem insertDeadline_filter_due {now : BitVec 32} {d : Deadline} (hd : d.due = false) (l : List Deadline) :
    (insertDeadline now d l).filter (fun d => d.due) = l.filter fun d => d.due := by
  induction l with
  | nil => simp [insertDeadline, hd]
  | cons x xs ih =>
    unfold insertDeadline
    split
    · simp [hd]
    · simp [List.filter_cons, ih]

/-- A new entry takes its place in the order (R96). -/
theorem insertDeadline_pairwise {now : BitVec 32} {d : Deadline} (hd : d.due = false) {l : List Deadline}
    (h : l.Pairwise (Deadline.Before now)) : (insertDeadline now d l).Pairwise (Deadline.Before now) := by
  induction l with
  | nil => exact List.pairwise_singleton _ _
  | cons x xs ih =>
    obtain ⟨hx, hxs⟩ := List.pairwise_cons.mp h
    unfold insertDeadline
    split
    · next hahead =>
      simp only [Bool.and_eq_true, Bool.not_eq_true', ahead_eq_true_iff] at hahead
      have hdx : d.Before now x := fun _ => ⟨hahead.1, hahead.2.le⟩
      exact List.pairwise_cons.mpr ⟨List.forall_mem_cons.mpr ⟨hdx, fun y hy => hdx.trans (hx y hy)⟩, h⟩
    · next hahead =>
      simp only [Bool.and_eq_true, Bool.not_eq_true', ahead_eq_true_iff, not_and, not_lt] at hahead
      refine List.pairwise_cons.mpr ⟨fun y hy => ?_, ih hxs⟩
      rcases (mem_insertDeadline now d y xs).mp hy with rfl | hy
      · exact fun hxd => ⟨hd, hahead hxd⟩
      · exact hx y hy

/-- An entry armed `n` ticks ahead is `n` ticks away, also across the wrap of the counter. -/
theorem distance_of_armed (now : BitVec 32) {n : Nat} (hn : n ≤ 65535) (i : Slot) (k : DeadlineKind) :
    Deadline.distance now { slot := i, kind := k, dueTick := now + BitVec.ofNat 32 n, due := false } = n := by
  have h : now + BitVec.ofNat 32 n - now = BitVec.ofNat 32 n := by bv_omega
  simp only [Deadline.distance, h, BitVec.toNat_ofNat]
  omega

/-! ## The counter advances -/

/-- An entry once the counter has reached `now`: due if it was, or if `now` is its due tick (R96). -/
def Deadline.mark (now : BitVec 32) (d : Deadline) : Deadline := { d with due := d.due || d.dueTick == now }

@[simp] theorem mark_slot (now : BitVec 32) (d : Deadline) : (d.mark now).slot = d.slot := rfl

@[simp] theorem mark_kind (now : BitVec 32) (d : Deadline) : (d.mark now).kind = d.kind := rfl

theorem advance_deadlines (t : Timer) : t.advance.deadlines = t.deadlines.map (Deadline.mark (t.tick + 1)) := rfl

theorem mark_due_eq_false_iff {now : BitVec 32} {d : Deadline} :
    (d.mark now).due = false ↔ d.due = false ∧ d.dueTick ≠ now := by
  simp [Deadline.mark]

section
variable {now : BitVec 32}

theorem dueTick_eq_succ_iff {d : Deadline} : d.dueTick = now + 1 ↔ d.distance now = 1 := by
  unfold Deadline.distance
  constructor <;> intro h <;> bv_omega

theorem distance_succ {d : Deadline} (h : 1 ≤ d.distance now) : d.distance (now + 1) = d.distance now - 1 := by
  unfold Deadline.distance at *
  bv_omega

theorem distance_le_of_place_le {a b : Deadline} (h : a.place now ≤ b.place now) : a.distance now ≤ b.distance now := by
  have hkb := rank_lt b.kind
  have hsb := b.slot.isLt
  unfold Deadline.place at h
  omega

theorem mark_place {d : Deadline} (h : 1 ≤ d.distance now) : (d.mark (now + 1)).place (now + 1) + 512 = d.place now := by
  have hd : (d.mark (now + 1)).distance (now + 1) = d.distance now - 1 := distance_succ h
  simp only [Deadline.place, hd, mark_slot, mark_kind]
  omega

/-- Among entries that are not due, those of the next tick stand first, and the others keep their order as the counter advances. -/
theorem Deadline.Before.mark {a b : Deadline} (h : a.Before now b) (ha : a.due = false → 1 ≤ a.distance now) :
    (a.mark (now + 1)).Before (now + 1) (b.mark (now + 1)) := by
  intro hm
  obtain ⟨had, hat⟩ := mark_due_eq_false_iff.mp hm
  obtain ⟨hbd, hp⟩ := h had
  rw [ne_eq, dueTick_eq_succ_iff] at hat
  have h1 := ha had
  have hle := distance_le_of_place_le hp
  refine ⟨mark_due_eq_false_iff.mpr ⟨hbd, ?_⟩, ?_⟩
  · rw [ne_eq, dueTick_eq_succ_iff]
    omega
  · have hpa := mark_place h1
    have hpb := mark_place (h1.trans hle)
    omega

end

/-- The entries that fall due as the counter reaches `now`. -/
def fallDue (now : BitVec 32) (l : List Deadline) : List Deadline :=
  (l.filter fun d => !d.due && d.dueTick == now).map (Deadline.mark now)

/-- Those that were due stay ahead, and those that fall due join behind them (R96). -/
theorem filter_due_mark {now : BitVec 32} {l : List Deadline} (h : l.Pairwise fun a b => a.due = false → b.due = false) :
    (l.map (Deadline.mark now)).filter (fun d => d.due) = (l.filter fun d => d.due) ++ fallDue now l := by
  induction l with
  | nil => rfl
  | cons x xs ih =>
    obtain ⟨hx, hxs⟩ := List.pairwise_cons.mp h
    have ih := ih hxs
    unfold fallDue at *
    cases hd : x.due with
    | true =>
      have hm : (x.mark now).due = true := by simp [Deadline.mark, hd]
      have hself : x.mark now = x := by cases x; simp_all [Deadline.mark]
      simp [hd, hself, ih]
    | false =>
      have hnone : xs.filter (fun d => d.due) = [] := List.filter_eq_nil_iff.mpr fun y hy => by simp [hx y hy hd]
      rw [hnone, List.nil_append] at ih
      by_cases ht : x.dueTick = now <;> simp [hd, hnone, ih, Deadline.mark, ht]

end Sys2Proof.Machine
end

section
/-! SUPPORT. What a command can do to the deadline list, said once: entries leave, an entry is armed a sound number of ticks ahead, or the
list stays; and with each of these, which deadlines the points then want by R95. -/

namespace Sys2Proof.Machine

open Host (Outcome)
open Relation (ReflTransGen)

/-! ## The deadlines that points want -/

/-- The point has a deadline of the kind by R95: FRESH when it is LIVE with an interval, HOLD when it has an update open. A RETIRING point
has no update open (R7), and so neither. -/
def Point.wants (pt : Point) : DeadlineKind → Bool
  | .fresh => pt.state == .live && pt.fresh != 0
  | .hold => pt.updateOpen && pt.state != .retiring

/-- The slot holds a point that has a deadline of the kind by R95. -/
def State.wants (s : State) (i : Slot) (k : DeadlineKind) : Bool := (s.point i).any fun pt => pt.wants k

theorem wants_of_some {s : State} {i : Slot} {pt : Point} (h : s.point i = some pt) (k : DeadlineKind) : s.wants i k = pt.wants k := by
  simp [State.wants, h]

theorem wants_of_none {s : State} {i : Slot} (h : s.point i = none) (k : DeadlineKind) : s.wants i k = false := by
  simp [State.wants, h]

theorem wants_congr {s t : State} {i : Slot} (h : t.point i = s.point i) (k : DeadlineKind) : t.wants i k = s.wants i k := by
  simp [State.wants, h]

/-- No RETIRING point has an update open (R7, R33). -/
def RetiringClosed (s : State) : Prop := ∀ i, ∀ pt ∈ s.point i, pt.state = .retiring → pt.updateOpen = false

/-- Each slot has the deadlines its point wants, each once (R95). -/
def DeadlinesWanted (s : State) : Prop :=
  (s.timer.deadlines.Pairwise fun a b => ¬(a.slot = b.slot ∧ a.kind = b.kind)) ∧ ∀ i k, s.armed i k ↔ s.wants i k = true

theorem wants_fresh_iff {s : State} {i : Slot} :
    s.wants i .fresh = true ↔ ∃ pt ∈ s.point i, pt.state = .live ∧ pt.fresh ≠ 0 := by
  simp [State.wants, Point.wants, Option.any_eq_true]

theorem RetiringClosed.wants_hold_iff {s : State} (h : RetiringClosed s) {i : Slot} :
    s.wants i .hold = true ↔ ∃ pt ∈ s.point i, pt.updateOpen = true := by
  simp only [State.wants, Point.wants, Option.any_eq_true, Bool.and_eq_true, bne_iff_ne]
  refine exists_congr fun pt => and_congr_right fun hp => and_iff_left_of_imp fun hu hr => ?_
  rw [h i pt hp hr] at hu
  cases hu

theorem deadlinesExact_iff {s : State} : DeadlinesExact s ↔ RetiringClosed s ∧ DeadlinesWanted s := by
  constructor
  · rintro ⟨hpair, hfresh, hhold, hclosed⟩
    refine ⟨hclosed, hpair, fun i k => ?_⟩
    cases k with
    | fresh => rw [hfresh, wants_fresh_iff]
    | hold => rw [hhold, RetiringClosed.wants_hold_iff hclosed]
  · rintro ⟨hclosed, hpair, harmed⟩
    exact ⟨hpair, fun i => by rw [harmed, wants_fresh_iff], fun i => by rw [harmed, hclosed.wants_hold_iff], hclosed⟩

/-! ## RETIRING points stay closed -/

theorem RetiringClosed.setPoint {s : State} (hs : RetiringClosed s) (i : Slot) {x : Option Point}
    (hx : ∀ pt ∈ x, pt.state = .retiring → pt.updateOpen = false) : RetiringClosed (s.setPoint i x) := by
  intro j pt hp
  rw [setPoint_point] at hp
  split at hp
  · exact hx pt hp
  · exact hs j pt hp

/-- A change that may raise counts, close updates and free slots leaves RETIRING points closed. -/
theorem RetiringClosed.of_points {s t : State} (hs : RetiringClosed s)
    (h : ∀ j, ∀ qt ∈ t.point j, ∃ pt ∈ s.point j, qt.state = pt.state ∧ (qt.updateOpen = true → pt.updateOpen = true)) :
    RetiringClosed t := by
  intro j qt hq hr
  obtain ⟨pt, hp, hst, hu⟩ := h j qt hq
  rw [← Bool.not_eq_true]
  intro ho
  exact Bool.false_ne_true ((hs j pt hp (hst ▸ hr)).symm.trans (hu ho))

theorem Turnover.retiringClosed {x : Special} {s t : State} (h : Turnover x s t) (hs : RetiringClosed s) : RetiringClosed t := by
  cases h with
  | fill hx h hk hw hg => exact hs.setPoint _ fun pt hp => by cases hp; exact nofun
  | @retire i pt hx h hst hu =>
    obtain ⟨⟨n, hi⟩, hj⟩ := retireSlot_point h
    intro j qt hq
    by_cases hji : j = i
    · rw [hji, hi, Option.mem_def, Option.filter_eq_some_iff] at hq
      exact fun _ => Option.some.inj hq.1 ▸ hu
    · exact hs j qt (hj j hji ▸ hq)
  | release hx hq =>
    refine hs.of_points fun j qt hj => ?_
    rw [releaseRefs_point, setQueue_point, Option.mem_def] at hj
    obtain ⟨pt, hp, rfl, -⟩ := drained_eq_some hj
    exact ⟨pt, hp, rfl, id⟩

theorem Change.retiringClosed {x : Special} {s t : State} (h : Change x s t) (hs : RetiringClosed s) : RetiringClosed t := by
  cases h with
  | aside hu hr => exact fun i pt hp => hs i pt (hu.point i ▸ hp)
  | @edit i pt pt' h he =>
    refine hs.setPoint i fun qt hq hr => ?_
    cases hq
    rw [he.updateOpen]
    exact hs i pt h (he.retiring.mp hr)
  | offer p n hn =>
    refine hs.of_points fun j qt hq => ?_
    rw [offer_point, Option.mem_def] at hq
    split at hq
    · obtain ⟨pt, hp, rfl⟩ := Option.map_eq_some_iff.mp hq
      exact ⟨pt, hp, rfl, id⟩
    · exact ⟨qt, hq, rfl, id⟩
  | openUpdate h hst hu hn => exact hs.setPoint _ fun qt hq hr => by cases hq; exact (hst hr).elim
  | closeUpdate i =>
    refine hs.of_points fun j qt hq => ?_
    rw [closeUpdate_point, Option.mem_def] at hq
    split at hq
    · obtain ⟨pt, hp, rfl⟩ := Option.map_eq_some_iff.mp hq
      exact ⟨pt, hp, rfl, nofun⟩
    · exact ⟨qt, hq, rfl, id⟩
  | dropUpdates p =>
    refine hs.of_points fun j qt hq => ?_
    rw [dropUpdates_point, Option.mem_def] at hq
    obtain ⟨pt, hp, rfl⟩ := Option.map_eq_some_iff.mp hq
    refine ⟨pt, hp, ?_⟩
    split
    · exact ⟨rfl, nofun⟩
    · exact ⟨rfl, id⟩
  | publish hx h hst => exact hs.setPoint _ fun qt hq => by cases hq; exact nofun
  | give hx h hst hu q => exact hs.setPoint _ fun qt hq _ => by cases hq; exact hu
  | turnover h => exact h.retiringClosed hs

theorem retiringClosed_reset : RetiringClosed State.reset := fun i pt hp => by simp at hp

/-- No step opens an update of a RETIRING point or retires a point with its update open. -/
theorem step_retiringClosed {s t : State} (hs : RetiringClosed s) (h : step s = .next t) : RetiringClosed t :=
  step_keeps retiringClosed_reset (fun hu hs i pt hp => hs i pt (hu.point i ▸ hp)) Change.retiringClosed hs h

/-! ## Moves of the deadline list -/

/-- HOLDLIM is 1 to 4095 and the sub-tick count at most TICKDIV (R91, R93). -/
def Timer.InRange (t : Timer) : Prop := 1 ≤ t.holdlim ∧ t.holdlim ≤ Config.maxHoldlim ∧ t.subTick ≤ t.tickdiv.toNat

/-- The counter and the list are as they were, and the other values in range if they were. -/
structure Timer.Stays (a b : Timer) : Prop where
  tick : b.tick = a.tick
  deadlines : b.deadlines = a.deadlines
  inRange : a.InRange → b.InRange

/-- One move of the deadline list, with the deadlines that points want before and after it: the list stays; slot `i`'s entry of kind `k`
leaves and is not wanted any more; or it is armed anew, `n` ticks ahead, and is wanted. -/
inductive Rearm (s t : State) : Prop where
  | stay (ht : s.timer.Stays t.timer) (hw : ∀ j m, t.wants j m = s.wants j m)
  | disarm (i : Slot) (k : DeadlineKind) (ht : t.timer = (s.disarm i k).timer) (hi : t.wants i k = false)
      (hw : ∀ j m, ¬(j = i ∧ m = k) → t.wants j m = s.wants j m)
  | arm (i : Slot) (k : DeadlineKind) (n : Nat) (hn : s.timer.InRange → 1 ≤ n ∧ n ≤ 65535) (ht : t.timer = (s.arm i k n).timer)
      (hi : t.wants i k = true) (hw : ∀ j m, ¬(j = i ∧ m = k) → t.wants j m = s.wants j m)

/-- A chain of such moves. -/
abbrev Rearms : State → State → Prop := ReflTransGen Rearm

theorem Timer.Stays.of_eq {a b : Timer} (h : b = a) : a.Stays b := by
  subst h
  exact ⟨rfl, rfl, id⟩

theorem Rearm.of_timer_eq {s t : State} (ht : t.timer = s.timer) (hw : ∀ j m, t.wants j m = s.wants j m) : Rearm s t :=
  .stay (.of_eq ht) hw

theorem Rearm.of_dir_eq {s t : State} (hd : t.dir = s.dir) (ht : s.timer.Stays t.timer) : Rearm s t :=
  .stay ht fun j m => wants_congr (by unfold State.point; rw [hd]) m

/-- Directory and timer unit are as they were. -/
theorem Rearms.of_same {s t : State} (hd : t.dir = s.dir) (ht : t.timer = s.timer) : Rearms s t := .single (.of_dir_eq hd (.of_eq ht))

theorem Rearms.of_points {s t : State} (ht : t.timer = s.timer) (hp : ∀ j, t.point j = s.point j) : Rearms s t :=
  .single (.of_timer_eq ht fun j m => wants_congr (hp j) m)

/-! ### What one slot's new record wants -/

theorem setPoint_wants (s : State) (i : Slot) (x : Option Point) (j : Slot) (m : DeadlineKind) :
    (s.setPoint i x).wants j m = if i = j then x.any fun pt => pt.wants m else s.wants j m := by
  unfold State.wants
  rw [setPoint_point]
  split <;> rfl

/-- A record that wants the deadlines of the one before it. -/
theorem setPoint_wants_of_same {s : State} {i : Slot} {pt pt' : Point} (h : s.point i = some pt) (hw : ∀ m, pt'.wants m = pt.wants m)
    (j : Slot) (m : DeadlineKind) : (s.setPoint i (some pt')).wants j m = s.wants j m := by
  rw [setPoint_wants]
  split
  · next hij => rw [← hij, wants_of_some h, Option.any_some, hw]
  · rfl

theorem Rearms.edit {s : State} {i : Slot} {pt pt' : Point} (h : s.point i = some pt) (hw : ∀ m, pt'.wants m = pt.wants m) :
    Rearms s (s.setPoint i (some pt')) := .single (.of_timer_eq rfl (setPoint_wants_of_same h hw))

/-- Slot `i` takes a record that differs, in the deadlines it wants, in those of kind `k` alone. -/
theorem setPoint_wants_ne {s : State} {i : Slot} {pt pt' : Point} {k : DeadlineKind} (h : s.point i = some pt)
    (hw : ∀ m, m ≠ k → pt'.wants m = pt.wants m) (j : Slot) (m : DeadlineKind) (hjm : ¬(j = i ∧ m = k)) :
    (s.setPoint i (some pt')).wants j m = s.wants j m := by
  rw [setPoint_wants]
  split
  · next hij =>
    subst hij
    rw [wants_of_some h, Option.any_some, hw m fun hm => hjm ⟨rfl, hm⟩]
  · rfl

/-! ### Moves by the shared operations -/

theorem offer_wants (s : State) (p : Port) (n : Notice) (j : Slot) (m : DeadlineKind) : (s.offer p n).wants j m = s.wants j m := by
  unfold State.wants
  rw [offer_point]
  split
  · cases s.point j <;> cases m <;> rfl
  · rfl

theorem offer_rearms (s : State) (p : Port) (n : Notice) : Rearms s (s.offer p n) :=
  .single (.of_timer_eq (offer_timer ..) (offer_wants s p n))

theorem offerStanding_rearms (s : State) (p : Port) (st : Standing) : Rearms s (s.offerStanding p st) := offer_rearms ..

/-- A fold is a chain of moves when each of its turns is. -/
theorem foldl_rearms {α : Type} {f : State → α → State} (h : ∀ s a, Rearms s (f s a)) (l : List α) (s : State) :
    Rearms s (l.foldl f s) := by
  induction l generalizing s with
  | nil => exact .refl
  | cons a l ih => exact (h s a).trans (ih (f s a))

theorem route_rearms (s : State) (i : Slot) (k : WatchKind) (mk : FilterNo → Notice) : Rearms s (s.route i k mk) := by
  refine foldl_rearms (fun s p => ?_) allPorts s
  fun_cases State.routeTo i k mk s p with
  | case3 => exact offer_rearms ..
  | _ => exact .refl

theorem routeStale_rearms (s : State) (i : Slot) : Rearms s (s.routeStale i) := by
  fun_cases State.routeStale s i with
  | case1 => exact .refl
  | case2 => exact route_rearms ..

theorem routeOwner_rearms (o : Option Port) (s : State) (i : Slot) : Rearms s (State.routeOwner o s i) := by
  fun_cases State.routeOwner o s i with
  | case1 => exact .refl
  | case2 => exact route_rearms ..

/-- A RETIRING slot that is freed wanted no deadline (R20). -/
theorem drained_wants (x : Option Point) (n : Nat) (m : DeadlineKind) :
    ((drained x n).any fun pt => pt.wants m) = x.any fun pt => pt.wants m := by
  cases x with
  | none => rfl
  | some pt =>
    unfold drained
    rw [Option.bind_some]
    split
    · next h => cases m <;> simp [Point.wants, h.1]
    · cases m <;> rfl

theorem releaseRefs_rearms (s : State) (p : Port) (left gone : List Notice) : Rearms s ((s.setQueue p left).releaseRefs gone) := by
  refine .single (.of_timer_eq (by simp) fun j m => ?_)
  unfold State.wants
  rw [releaseRefs_point, setQueue_point, drained_wants]

theorem flushQueue_rearms (s : State) (p : Port) : Rearms s (s.flushQueue p) := releaseRefs_rearms ..

/-- A point whose update is closed wants no HOLD deadline, and FRESH as before (R33). -/
theorem closeUpdate_wants (s : State) (i j : Slot) (m : DeadlineKind) :
    (s.closeUpdate i).wants j m = if j = i ∧ m = .hold then false else s.wants j m := by
  unfold State.wants
  rw [closeUpdate_point]
  by_cases hij : i = j
  · subst hij
    cases s.point i <;> cases m <;> simp [Point.wants]
  · simp [hij, Ne.symm hij]

theorem closeUpdate_rearms (s : State) (i : Slot) : Rearms s (s.closeUpdate i) := by
  have ht := closeUpdate_timer s i
  by_cases ho : ∃ pt, s.point i = some pt ∧ pt.updateOpen = true
  · obtain ⟨pt, hp, hu⟩ := ho
    simp only [hp, hu, if_true] at ht
    refine .single (.disarm i .hold (ht.trans (disarm_timer ..).symm) ?_ fun j m hjm => ?_)
    · rw [closeUpdate_wants, if_pos ⟨rfl, rfl⟩]
    · rw [closeUpdate_wants, if_neg hjm]
  · have hs : s.closeUpdate i = s := by
      fun_cases State.closeUpdate s i with
      | case2 pt hp hu => exact (ho ⟨pt, hp, hu⟩).elim
      | _ => rfl
    rw [hs]

end Sys2Proof.Machine
end

section
/-! SUPPORT. Every command moves the deadline list as `Rearms` says, advances the tick counter, or is an entry to RESET. -/

namespace Sys2Proof.Machine

open Host (Outcome)

/-! ## Updates of the state that move no deadline -/

theorem setFilters_rearms (s : State) (p : Port) (fs : Vector Filter 8) : Rearms s (s.setFilters p fs) := .of_same rfl rfl

theorem setEngine_rearms (s : State) (p : Port) (e : Engine) : Rearms s (s.setEngine p e) := .of_same rfl rfl

theorem setRecord_rearms (s : State) (p : Port) (r : StandingRec) : Rearms s (s.setRecord p r) := .of_same rfl rfl

theorem setOpenUpdates_rearms (s : State) (p : Port) (n : Nat) : Rearms s (s.setOpenUpdates p n) := .of_points rfl fun _ => rfl

theorem setStandingRequest_rearms (s : State) (r : Option StandingRequest) : Rearms s (s.setStandingRequest r) := .of_same rfl rfl

theorem setLastPort_rearms (s : State) (p : Port) : Rearms s (s.setLastPort p) := .of_same rfl rfl

theorem setGrant_rearms (s : State) (g : Requester) : Rearms s (s.setGrant g) := .of_same rfl rfl

theorem presentHeld_rearms (s : State) : Rearms s s.presentHeld := .of_same (presentHeld_dir s) (presentHeld_timer s)

/-! ## Moves by the publishing commands -/

theorem expireUpdate_rearms (s : State) (i : Slot) : Rearms s (s.expireUpdate i) := by
  fun_cases State.expireUpdate s i with
  | case2 => exact (closeUpdate_rearms s i).trans (offer_rearms ..)
  | _ => exact .refl

/-- A published point is LIVE: it wants FRESH exactly when it has an interval, and HOLD as before (R32, R95). -/
theorem committedPending_wants {pt : Point} (hs : pt.state ≠ .retiring) (m : DeadlineKind) :
    pt.committedPending.wants m = if m = .fresh then pt.fresh != 0 else pt.wants m := by
  cases m with
  | fresh => rfl
  | hold => rw [if_neg nofun, Point.wants, Point.wants, bne_iff_ne.mpr hs]; rfl

theorem publish_rearms {s : State} {i : Slot} {pt : Point} (h : s.point i = some pt) (hs : pt.state ≠ .retiring) :
    Rearms s (s.publish i) := by
  rw [publish_eq h]
  refine .trans (.single ?_) (route_rearms ..)
  set u := s.setPoint i (some pt.committedPending) with hu
  have hw : ∀ j m, (u.renewFresh i pt).wants j m = u.wants j m := fun j => wants_congr (renewFresh_point u i pt j)
  have hi : u.wants i .fresh = (pt.fresh != 0) := by
    rw [hu, setPoint_wants, if_pos rfl, Option.any_some, committedPending_wants hs, if_pos rfl]
  have hj : ∀ j m, ¬(j = i ∧ m = .fresh) → u.wants j m = s.wants j m :=
    setPoint_wants_ne h fun m hm => by rw [committedPending_wants hs, if_neg hm]
  by_cases hf : pt.fresh = 0
  · refine .disarm i .fresh ?_ ((hw ..).trans ?_) fun j m hjm => (hw ..).trans (hj j m hjm)
    · rw [State.renewFresh, if_pos hf]; rfl
    · rw [hi, hf]; rfl
  · refine .arm i .fresh pt.fresh.toNat (fun _ => ?_) ?_ ((hw ..).trans ?_) fun j m hjm => (hw ..).trans (hj j m hjm)
    · have hlt := pt.fresh.isLt
      have hne : pt.fresh.toNat ≠ 0 := fun h0 => hf (BitVec.eq_of_toNat_eq h0)
      omega
    · rw [State.renewFresh, if_neg hf]; rfl
    · rw [hi, bne_iff_ne]; exact hf

theorem createOp_rearms (p : Port) (key : Key) (width : Byte) (readers : PortSet) (fresh : BitVec 16) (s : State) :
    Rearms s (createOp p key width readers fresh s).1 := by
  fun_cases createOp p key width readers fresh s with
  | case6 hl hw hk i hi hg =>
    refine .single (.of_timer_eq rfl fun j m => (setPoint_wants s i _ j m).trans ?_)
    split
    · next hij =>
      rw [← hij, wants_of_none (point_of_lowestFree hi)]
      cases m <;> rfl
    · rfl
  | _ => exact .refl

theorem openOp_rearms (p : Port) (i : Slot) (s : State) : Rearms s (openOp p i s).1 := by
  fun_cases openOp p i s with
  | case7 hl pt h ho hs hu hn =>
    have hne : ∀ m, m ≠ .hold → ({ pt with pendingBuf := pt.committed, updateOpen := true } : Point).wants m = pt.wants m
      | .fresh, _ => rfl
      | .hold, hm => (hm rfl).elim
    refine .single (.arm i .hold s.timer.holdlim (fun hr => ?_) rfl ?_ (setPoint_wants_ne h hne))
    · obtain ⟨h1, h2, -⟩ := hr
      exact ⟨h1, h2.trans (by decide)⟩
    · refine (setPoint_wants s i _ i .hold).trans ?_
      rw [if_pos rfl]
      simpa [Point.wants] using hs
  | _ => exact .refl

theorem wants_pendingBuf (pt : Point) (buf : List Byte) (m : DeadlineKind) :
    ({ pt with pendingBuf := buf } : Point).wants m = pt.wants m := by
  cases m <;> rfl

theorem writeOp_rearms (p : Port) (i : Slot) (offset : Byte) (data : List Byte) (s : State) :
    Rearms s (writeOp p i offset data s).1 := by
  fun_cases writeOp p i offset data s with
  | case7 hl pt h => exact .edit h (wants_pendingBuf pt _)
  | _ => exact .refl

theorem commitOp_rearms (p : Port) (i : Slot) (s : State) : Rearms s (commitOp p i s).1 := by
  fun_cases commitOp p i s with
  | case6 hl pt h ho hs hu =>
    have hc : (s.closeUpdate i).point i = some { pt with updateOpen := false } := by simp [h]
    exact (closeUpdate_rearms s i).trans (publish_rearms hc hs)
  | _ => exact .refl

theorem discardOp_rearms (p : Port) (i : Slot) (s : State) : Rearms s (discardOp p i s).1 := by
  fun_cases discardOp p i s with
  | case5 => exact closeUpdate_rearms s i
  | _ => exact .refl

theorem putOp_rearms (p : Port) (i : Slot) (offset : Byte) (data : List Byte) (s : State) :
    Rearms s (putOp p i offset data s).1 := by
  fun_cases putOp p i offset data s with
  | case7 hl pt h ho hs =>
    exact (Rearms.edit h (wants_pendingBuf pt _)).trans
      (publish_rearms (pt := { pt with pendingBuf := splice pt.committed offset.toNat data }) (by simp) hs)
  | _ => exact .refl

theorem refreshOp_rearms (p : Port) (i : Slot) (s : State) : Rearms s (refreshOp p i s).1 := by
  fun_cases refreshOp p i s with
  | case7 hl pt h => exact (Rearms.edit h fun m => by cases m <;> rfl).trans (offer_rearms ..)
  | _ => exact .refl

/-! ## Moves by retirement and by the watching and supervising commands -/

@[simp] theorem freeIfUnnamed_timer (s : State) (i : Slot) : (s.freeIfUnnamed i).timer = s.timer := by
  unfold State.freeIfUnnamed
  split
  · rfl
  · split <;> simp

/-- A retired point wants no deadline, and its slot none if it is freed at once (R111). -/
theorem retireSlot_rearms {s : State} {i : Slot} {pt : Point} (h : s.point i = some pt) (hu : pt.updateOpen = false) :
    Rearms s (s.retireSlot i) := by
  obtain ⟨⟨n, hi⟩, hj⟩ := retireSlot_point h
  have hnone : ∀ m, (s.retireSlot i).wants i m = false := fun m => by
    unfold State.wants
    rw [hi, Option.filter_some]
    split <;> cases m <;> simp [Point.wants, Point.retired]
  refine .single (.disarm i .fresh ?_ (hnone _) fun j m hjm => ?_)
  · rw [State.retireSlot, freeIfUnnamed_timer, routeRetired_timer, retirePoint_eq h]
    simp
  · by_cases hji : j = i
    · subst hji
      cases m with
      | fresh => exact (hjm ⟨rfl, rfl⟩).elim
      | hold => rw [hnone, wants_of_some h, Point.wants, hu, Bool.false_and]
    · exact wants_congr (hj j hji) m

theorem retireOp_rearms (p : Port) (i : Slot) (s : State) : Rearms s (retireOp p i s).1 := by
  fun_cases retireOp p i s with
  | case5 hl pt h ho hs =>
    have hc : (s.closeUpdate i).point i = some { pt with updateOpen := false } := by simp [h]
    exact (closeUpdate_rearms s i).trans (retireSlot_rearms hc rfl)
  | _ => exact .refl

theorem watchOp_rearms (p : Port) (filter : Byte) (key mask : Key) (kinds : KindSet) (s : State) :
    Rearms s (watchOp p filter key mask kinds s).1 := by
  fun_cases watchOp p filter key mask kinds s with
  | case3 => exact setFilters_rearms ..
  | _ => exact .refl

theorem unwatchOp_rearms (p : Port) (filter : Byte) (s : State) : Rearms s (unwatchOp p filter s).1 := by
  fun_cases unwatchOp p filter s with
  | case1 => exact .refl
  | case2 => exact setFilters_rearms ..

theorem takeOp_rearms (p : Port) (count : Byte) (s : State) : Rearms s (takeOp p count s).1 := by
  fun_cases takeOp p count s with
  | case1 => exact .refl
  | case2 => exact releaseRefs_rearms ..

theorem restoreOp_rearms (p : Port) (target : Byte) (s : State) : Rearms s (restoreOp p target s).1 := by
  fun_cases restoreOp p target s with
  | case4 => exact ((setRecord_rearms ..).trans (setEngine_rearms ..)).trans (offerStanding_rearms ..)
  | _ => exact .refl

theorem flushOp_rearms (p : Port) (target : Byte) (s : State) : Rearms s (flushOp p target s).1 := by
  fun_cases flushOp p target s with
  | case3 hp q => exact flushQueue_rearms s q
  | _ => exact .refl

theorem giveTo_rearms (s : State) (i : Slot) (q : Port) : Rearms s (s.giveTo i q) := by
  fun_cases State.giveTo s i q with
  | case1 => exact .refl
  | case2 pt h => exact .edit h fun m => by cases m <;> rfl

theorem remindOwner_rearms (s : State) (i : Slot) : Rearms s (s.remindOwner i) := by
  fun_cases State.remindOwner s i with
  | case2 => exact offer_rearms ..
  | _ => exact .refl

theorem reassignOp_rearms (p : Port) (i : Slot) (target : Byte) (s : State) : Rearms s (reassignOp p i target s).1 := by
  fun_cases reassignOp p i target s with
  | case6 hp q =>
    exact (((expireUpdate_rearms s i).trans (giveTo_rearms _ i q)).trans (remindOwner_rearms _ i)).trans (routeOwner_rearms _ _ i)
  | _ => exact .refl

/-- TIMING sets sound values and leaves the list as it was (R94). -/
theorem timingOp_rearms (p : Port) (tickdiv : Byte) (holdlim : BitVec 16) (s : State) : Rearms s (timingOp p tickdiv holdlim s).1 := by
  fun_cases timingOp p tickdiv holdlim s with
  | case3 hp hh =>
    obtain ⟨h0, h1⟩ := not_or.mp hh
    exact .single (.of_dir_eq rfl ⟨rfl, rfl, fun _ => ⟨Nat.one_le_iff_ne_zero.mpr h0, not_lt.mp h1, Nat.zero_le _⟩⟩)
  | _ => exact .refl

/-- Every request's operation moves the deadline list by such moves. -/
theorem requestOp_rearms (p : Port) (r : Request) (s : State) : Rearms s (requestOp p r s).1 := by
  cases r with
  | nop => exact .refl
  | status => exact .refl
  | attend on => exact setEngine_rearms ..
  | resend tag => exact .refl
  | create key width readers fresh => exact createOp_rearms ..
  | find target => rw [requestOp, findOp_state]
  | read i offset length => rw [requestOp, readOp_state]
  | scan key mask after count => rw [requestOp, scanOp_state]
  | openUpdate i => exact openOp_rearms ..
  | write i offset data => exact writeOp_rearms ..
  | commit i => exact commitOp_rearms ..
  | discard i => exact discardOp_rearms ..
  | put i offset data => exact putOp_rearms ..
  | refresh i => exact refreshOp_rearms ..
  | retire i => exact retireOp_rearms ..
  | watch filter key mask kinds => exact watchOp_rearms ..
  | unwatch filter => exact unwatchOp_rearms ..
  | take count => exact takeOp_rearms ..
  | restore target => exact restoreOp_rearms ..
  | flush target => exact flushOp_rearms ..
  | reassign i target => exact reassignOp_rearms ..
  | timing tickdiv holdlim => exact timingOp_rearms ..

/-! ## Moves by the timer and standing units' operations -/

/-- A point that is not LIVE wants no FRESH deadline. -/
theorem wants_fresh_of_not_live {pt : Point} (h : pt.state ≠ .live) : pt.wants .fresh = false := by
  simp [Point.wants, h]

/-- The entry leaves, and the point is not LIVE any more (R101). -/
theorem expireFresh_rearms (s : State) (i : Slot) : Rearms s (s.expireFresh i) := by
  have hsame : ∀ j m, (s.disarm i .fresh).wants j m = s.wants j m := fun j => wants_congr (disarm_point ..)
  fun_cases State.expireFresh s i with
  | case1 s1 h => exact .single (.disarm i .fresh rfl (wants_of_none h _) fun j m _ => hsame j m)
  | case2 s1 pt h hs =>
    have hne : ∀ m, m ≠ .fresh → ({ pt with state := .stale } : Point).wants m = pt.wants m
      | .fresh, hm => (hm rfl).elim
      | .hold, _ => by rw [Point.wants, Point.wants, hs]; rfl
    refine .trans ?_ (routeStale_rearms _ i)
    refine .single (.disarm i .fresh rfl ?_ fun j m hjm => ?_)
    · exact (setPoint_wants s1 i _ i .fresh).trans (if_pos rfl)
    · exact (setPoint_wants_ne h hne j m hjm).trans (hsame j m)
  | case3 s1 pt h hs =>
    exact .single (.disarm i .fresh rfl ((wants_of_some h _).trans (wants_fresh_of_not_live hs)) fun j m _ => hsame j m)

/-- A HOLD entry that has left the list is not there for the closing of its update to remove. -/
theorem disarm_closeUpdate_timer (s : State) (i : Slot) : ((s.disarm i .hold).closeUpdate i).timer = (s.disarm i .hold).timer := by
  rw [closeUpdate_timer]
  split
  · rfl
  · split
    · simp
    · rfl

/-- The entry leaves, and the update is closed (R102). -/
theorem expireHold_rearms (s : State) (i : Slot) : Rearms s (s.expireHold i) := by
  have hclose : Rearms s ((s.disarm i .hold).closeUpdate i) := by
    refine .single (.disarm i .hold (disarm_closeUpdate_timer s i) ?_ fun j m hjm => ?_)
    · rw [closeUpdate_wants, if_pos ⟨rfl, rfl⟩]
    · rw [closeUpdate_wants, if_neg hjm]
      exact wants_congr (disarm_point ..) m
  unfold State.expireHold
  fun_cases State.expireUpdate (s.disarm i .hold) i with
  | case1 h => exact .single (.disarm i .hold rfl (wants_of_none h _) fun j m _ => wants_congr (disarm_point ..) m)
  | case2 pt h hu => exact hclose.trans (offer_rearms ..)
  | case3 pt h hu =>
    refine .single (.disarm i .hold rfl ?_ fun j m _ => wants_congr (disarm_point ..) m)
    rw [wants_of_some h, Point.wants, Bool.eq_false_iff.mpr hu, Bool.false_and]

theorem expire_rearms (s : State) (i : Slot) (k : DeadlineKind) : Rearms s (s.expire i k) := by
  cases k with
  | fresh => exact expireFresh_rearms s i
  | hold => exact expireHold_rearms s i

/-- A severed port's update is closed and its HOLD entry leaves (R138, step 2). -/
theorem dropUpdate_rearms (s : State) (i : Slot) : Rearms s (s.dropUpdate i) := by
  fun_cases State.dropUpdate s i with
  | case1 => exact .refl
  | case2 pt h =>
    have hne : ∀ m, m ≠ .hold → ({ pt with updateOpen := false } : Point).wants m = pt.wants m
      | .fresh, _ => rfl
      | .hold, hm => (hm rfl).elim
    exact .single (.disarm i .hold rfl ((setPoint_wants s i _ i .hold).trans (if_pos rfl)) (setPoint_wants_ne h hne))

theorem orphan_rearms (s : State) (i : Slot) : Rearms s (s.orphan i) := by
  fun_cases State.orphan s i with
  | case1 => exact .refl
  | case2 pt h => exact .edit h fun m => by cases m <;> rfl

theorem clearPort_rearms (s : State) (p : Port) : Rearms s (s.clearPort p) := (setFilters_rearms ..).trans (setEngine_rearms ..)

theorem severPort_rearms (s : State) (p : Port) : Rearms s (s.severPort p) := by
  refine .trans (.trans ?_ (foldl_rearms (routeOwner_rearms none) _ _)) (offerStanding_rearms ..)
  refine .trans (.trans ?_ (flushQueue_rearms _ p)) (clearPort_rearms _ p)
  refine .trans ?_ (foldl_rearms orphan_rearms _ _)
  refine .trans (.trans ?_ (foldl_rearms dropUpdate_rearms _ _)) (setOpenUpdates_rearms _ p 0)
  exact setRecord_rearms s p _

theorem adopt_rearms (p : Port) (s : State) (i : Slot) : Rearms s (State.adopt p s i) := by
  fun_cases State.adopt p s i with
  | case1 => exact .refl
  | case2 pt h => exact (Rearms.edit h fun m => by cases m <;> rfl).trans (routeOwner_rearms _ _ i)

theorem restorePort_rearms (s : State) (p : Port) : Rearms s (s.restorePort p) := by
  refine .trans (.trans ?_ (foldl_rearms (adopt_rearms p) _ _)) (offerStanding_rearms ..)
  exact (setRecord_rearms ..).trans (setEngine_rearms ..)

theorem reportStanding_rearms (s : State) (p : Port) : Rearms s (s.reportStanding p) := by
  exact (setRecord_rearms ..).trans (offerStanding_rearms ..)

theorem standingOp_rearms (s : State) (r : StandingRequest) : Rearms s (r.op s) := by
  cases r with
  | sever p => exact severPort_rearms s p
  | restored p => exact restorePort_rearms s p
  | change p => exact reportStanding_rearms s p

/-! ## Every command -/

/-- What a step can be to the timer unit: moves of the deadline list, an advance of the tick counter alone, or a reset. -/
inductive TimerStep (s t : State) : Prop where
  | rearms (h : Rearms s t)
  | advance (h : t = s.setTimer s.timer.advance)
  | reset (ht : t.timer = Timer.reset) (hd : t.dir = Directory.reset)

theorem TimerStep.of_same {s t : State} (hd : t.dir = s.dir) (ht : t.timer = s.timer) : TimerStep s t := .rearms (.of_same hd ht)

/-- A meaning that is such a step under its condition, and otherwise changes nothing. -/
theorem TimerStep.of_ite {s t u : State} {cond : Prop} [Decidable cond]
    (h : (if cond then Outcome.next u else .next s : Outcome State Fault Refusal) = .next t) (hu : TimerStep s u) : TimerStep s t := by
  split at h <;> cases h
  · exact hu
  · exact .rearms .refl

theorem TimerStep.of_idle {s t : State} (h : (.next s : Outcome State Fault Refusal) = .next t) : TimerStep s t := by
  cases h
  exact .rearms .refl

/-- Handing a response back does not touch the directory or the timer unit (R155). -/
theorem handBack_rearms (s : State) (p : Port) (tag : Byte) (c : Command) (r : Reply) : Rearms s (s.handBack p tag c r) := by
  unfold State.handBack
  dsimp only
  split
  · obtain ⟨hd, -, ht, -⟩ := settleOutcome_keeps (State.extendRun _ p) p r.status
    exact .of_same (by rw [hd, extendRun_eq]; rfl) (by rw [ht, extendRun_eq]; rfl)
  · obtain ⟨hd, -, ht, -⟩ := settleOutcome_keeps (State.breakRun _ p) p r.status
    exact .of_same (by rw [hd, breakRun_eq]; rfl) (by rw [ht, breakRun_eq]; rfl)

theorem grantPort_timerStep {s t : State} {p : Port} {r : Request} (h : s.grantPort p r (requestOp p r) = .next t) :
    TimerStep s t := by
  by_cases ht : ∃ tag, Taken s p tag r
  · obtain ⟨tag, ht⟩ := ht
    rw [grantPort_of_taken _ ht] at h
    cases h
    exact .rearms (((setGrant_rearms ..).trans (requestOp_rearms p r _)).trans (handBack_rearms ..))
  · rw [grantPort_of_not_taken _ (not_exists.mp ht)] at h
    exact .of_idle h

theorem grantTimer_timerStep {s t : State} {i : Slot} {k : DeadlineKind} (h : s.grantTimer i k (fun s => s.expire i k) = .next t) :
    TimerStep s t := by
  by_cases hg : s.timer.request = some (i, k) ∧ s.nextGrant = some .timer
  · rw [grantTimer_granted _ hg.1 hg.2] at h
    cases h
    have hdrop : Rearms s ((s.setTimer { s.timer with request := none }).setGrant .timer) :=
      .single (.of_dir_eq rfl ⟨rfl, rfl, id⟩)
    split
    · exact .rearms (hdrop.trans (expire_rearms _ i k))
    · exact .rearms hdrop
  · rw [grantTimer_of_not_granted _ hg] at h
    exact .of_idle h

theorem grantStanding_timerStep {s t : State} {r : StandingRequest} (h : s.grantStanding r r.port r.op = .next t) :
    TimerStep s t := by
  by_cases hg : s.standing.request = some r ∧ s.nextGrant = some .standing
  · rw [grantStanding_granted _ hg.1 hg.2] at h
    cases h
    exact .rearms (((((setStandingRequest_rearms ..).trans (setLastPort_rearms ..)).trans (setGrant_rearms ..)).trans
      (standingOp_rearms _ r)).trans (presentHeld_rearms _))
  · rw [grantStanding_of_not_granted _ hg] at h
    exact .of_idle h

theorem answerFrame_timerStep (s : State) (p : Port) (frame : List Byte) (a : Answer) (st : Status) :
    TimerStep s (s.answerFrame p frame a st) := by
  obtain ⟨hd, -, ht, -⟩ := settleOutcome_keeps (((s.acceptBytes p frame).send p a).breakRun p) p st
  refine .of_same ?_ ?_
  · rw [State.answerFrame, hd, breakRun_eq]; rfl
  · rw [State.answerFrame, ht, breakRun_eq]; rfl

/-! ### Events of the port engines, the timer unit and the supply watch -/

theorem execBadFrame_timerStep {s t : State} {p : Port} {frame : List Byte} (h : execBadFrame p frame s = .next t) : TimerStep s t := by
  unfold execBadFrame at h
  split at h
  · exact .of_ite h (answerFrame_timerStep ..)
  · exact .of_idle h

theorem execCheckFail_timerStep {s t : State} {p : Port} {frame : List Byte} (h : execCheckFail p frame s = .next t) :
    TimerStep s t := by
  unfold execCheckFail at h
  split at h
  · exact .of_ite h (answerFrame_timerStep ..)
  · exact .of_idle h

theorem execHeld_timerStep {s t : State} {p : Port} {frame : List Byte} (h : execHeld p frame s = .next t) : TimerStep s t := by
  unfold execHeld at h
  split at h
  · exact .of_ite h (answerFrame_timerStep ..)
  · exact .of_idle h

theorem execResend_timerStep {s t : State} {p : Port} {frame : List Byte} (h : execResend p frame s = .next t) : TimerStep s t := by
  unfold execResend at h
  split at h
  · exact .of_ite h (answerFrame_timerStep ..)
  · exact .of_idle h

theorem execRequestPresented_timerStep {s t : State} {p : Port} {frame : List Byte}
    (h : execRequestPresented p frame s = .next t) : TimerStep s t := by
  unfold execRequestPresented at h
  split at h
  · exact .of_ite h (.of_same rfl rfl)
  · exact .of_idle h

theorem execSelectPeriodStart_timerStep {s t : State} {p : Port} (h : execSelectPeriodStart p s = .next t) : TimerStep s t := by
  unfold execSelectPeriodStart at h
  dsimp only at h
  split at h
  · split at h <;> cases h <;> exact .of_same rfl rfl
  · exact .of_idle h

theorem execSelectPeriodEnd_timerStep {s t : State} {p : Port} (h : execSelectPeriodEnd p s = .next t) : TimerStep s t := by
  unfold execSelectPeriodEnd at h
  dsimp only at h
  split at h <;> cases h <;> exact .of_same rfl rfl

theorem execExpiryRequest_timerStep {s t : State} (h : execExpiryRequest s = .next t) : TimerStep s t := by
  unfold execExpiryRequest at h
  split at h
  · exact .of_ite h (.rearms (.single (.of_dir_eq rfl ⟨rfl, rfl, id⟩)))
  · exact .of_idle h

theorem execDroopFreeze_timerStep {s t : State} (h : execDroopFreeze s = .next t) : TimerStep s t := by
  unfold execDroopFreeze at h
  refine .of_ite h (.of_same ?_ ?_)
  · rw [presentHeld_dir, withdraws_keep (fun s => s.dir) fun _ _ _ => rfl]; rfl
  · rw [presentHeld_timer, withdraws_keep (fun s => s.timer) fun _ _ _ => rfl]; rfl

/-- What carrying out any command can be to the timer unit. -/
theorem exec_timerStep {c : Instr} {s t : State} (h : exec c s = .next t) : TimerStep s t := by
  cases c with
  | nop | status | attend | create | find | read | scan | openUpdate | write | commit | discard | put | refresh | retire | watch
  | unwatch | take | restore | flush | reassign | timing => exact grantPort_timerStep h
  | tick => exact .of_ite h (.advance rfl)
  | expiryRequest => exact execExpiryRequest_timerStep h
  | freshExpiry i => exact grantTimer_timerStep (k := .fresh) h
  | holdExpiry i => exact grantTimer_timerStep (k := .hold) h
  | sever p => exact grantStanding_timerStep (r := .sever p) h
  | restorationComplete p => exact grantStanding_timerStep (r := .restored p) h
  | standingChange p => exact grantStanding_timerStep (r := .change p) h
  | resend p frame => exact execResend_timerStep h
  | badFrame p frame => exact execBadFrame_timerStep h
  | checkFail p frame => exact execCheckFail_timerStep h
  | held p frame => exact execHeld_timerStep h
  | requestPresented p frame => exact execRequestPresented_timerStep h
  | selectPeriodStart p => exact execSelectPeriodStart_timerStep h
  | selectPeriodEnd p => exact execSelectPeriodEnd_timerStep h
  | powerOnReset => cases h; exact .reset rfl rfl
  | pinReset => cases h; exact .reset rfl rfl
  | supplyReset => exact .of_ite h (.reset rfl rfl)
  | resetRelease sup swm => exact .of_ite h (.of_same rfl rfl)
  | settleEnd => exact .of_ite h (.of_same rfl rfl)
  | droopFreeze => exact execDroopFreeze_timerStep h
  | droopRecovery => exact .of_ite h (.of_same rfl rfl)

theorem clockPeriod_timerStep (s : State) : TimerStep s s.clockPeriod := by
  fun_cases State.clockPeriod s with
  | case1 => exact .advance rfl
  | case2 hr hlt =>
    refine .rearms (.single (.of_dir_eq rfl ⟨rfl, rfl, fun hi => ?_⟩))
    obtain ⟨h1, h2, -⟩ := hi
    exact ⟨h1, h2, by simpa using not_le.mp hlt⟩
  | case3 => exact .of_same rfl rfl
  | case4 => exact .of_same rfl rfl
  | case5 => exact .rearms .refl
  | case6 => exact .rearms .refl

/-- What a step can be to the timer unit, seen from the state with the queue's rest. -/
theorem step_timerStep {s t : State} (h : step s = .next t) : ∃ rest, TimerStep { s with pending := rest } t := by
  unfold step at h
  split at h
  · cases h
    exact ⟨s.pending, clockPeriod_timerStep s⟩
  · next rest _ => exact ⟨rest, exec_timerStep h⟩

end Sys2Proof.Machine
end

section
/-! SUPPORT. The laws of the deadline list at every step: each point has exactly the deadlines R95 gives it, and the list stands in the order
of R96 with the timer's values in range. -/

namespace Sys2Proof.Machine

/-! ## Each point's deadlines (R95) -/

theorem armed_congr {s t : State} (h : t.timer.deadlines = s.timer.deadlines) (i : Slot) (k : DeadlineKind) :
    t.armed i k ↔ s.armed i k := by
  unfold State.armed
  rw [h]

/-- A removed entry is gone, and every other is left (R97, R98). -/
theorem disarm_armed (s : State) (i j : Slot) (k m : DeadlineKind) :
    (s.disarm i k).armed j m ↔ ¬(j = i ∧ m = k) ∧ s.armed j m := by
  simp only [State.armed, disarm_timer, List.mem_filter, Bool.not_eq_true', ← Bool.not_eq_true, names_eq_true_iff]
  constructor
  · rintro ⟨d, ⟨hd, hn⟩, rfl, rfl⟩
    exact ⟨hn, d, hd, rfl, rfl⟩
  · rintro ⟨hn, d, hd, rfl, rfl⟩
    exact ⟨d, ⟨hd, hn⟩, rfl, rfl⟩

/-- An armed entry is there, with every other (R97, R98). -/
theorem arm_armed (s : State) (i j : Slot) (k m : DeadlineKind) (n : Nat) :
    (s.arm i k n).armed j m ↔ (j = i ∧ m = k) ∨ s.armed j m := by
  simp only [State.armed, mem_arm, ← Bool.not_eq_true, names_eq_true_iff]
  constructor
  · rintro ⟨d, rfl | ⟨hd, -⟩, rfl, rfl⟩
    · exact .inl ⟨rfl, rfl⟩
    · exact .inr ⟨d, hd, rfl, rfl⟩
  · intro h
    by_cases hjm : j = i ∧ m = k
    · obtain ⟨rfl, rfl⟩ := hjm
      exact ⟨_, .inl rfl, rfl, rfl⟩
    · obtain ⟨d, hd, rfl, rfl⟩ := h.resolve_left hjm
      exact ⟨d, .inr ⟨hd, hjm⟩, rfl, rfl⟩

/-- The list stays free of double entries when one is armed in place of any the slot had. -/
theorem arm_distinct {s : State} (h : s.timer.deadlines.Pairwise fun a b => ¬(a.slot = b.slot ∧ a.kind = b.kind)) (i : Slot)
    (k : DeadlineKind) (n : Nat) :
    (s.arm i k n).timer.deadlines.Pairwise fun a b => ¬(a.slot = b.slot ∧ a.kind = b.kind) := by
  rw [arm_timer, (insertDeadline_perm _ _ _).pairwise_iff fun hab hba => hab ⟨hba.1.symm, hba.2.symm⟩]
  refine List.pairwise_cons.mpr ⟨fun d hd hc => ?_, h.filter _⟩
  have hn := (List.mem_filter.mp hd).2
  rw [names_eq_true_iff.mpr ⟨hc.1.symm, hc.2.symm⟩] at hn
  cases hn

theorem DeadlinesWanted.of_stays {s t : State} (h : DeadlinesWanted s) (hd : t.timer.deadlines = s.timer.deadlines)
    (hw : ∀ j m, t.wants j m = s.wants j m) : DeadlinesWanted t := by
  obtain ⟨hpair, harmed⟩ := h
  exact ⟨hd ▸ hpair, fun j m => by rw [armed_congr hd, hw, harmed]⟩

theorem Rearm.deadlinesWanted {s t : State} (h : Rearm s t) (hs : DeadlinesWanted s) : DeadlinesWanted t := by
  obtain ⟨hpair, harmed⟩ := hs
  cases h with
  | stay ht hw => exact DeadlinesWanted.of_stays ⟨hpair, harmed⟩ ht.deadlines hw
  | disarm i k ht hi hw =>
    have hd := congrArg Timer.deadlines ht
    refine ⟨?_, fun j m => ?_⟩
    · rw [hd, disarm_timer]
      exact hpair.filter _
    · rw [armed_congr hd, disarm_armed]
      by_cases hjm : j = i ∧ m = k
      · obtain ⟨rfl, rfl⟩ := hjm
        simp [hi]
      · rw [hw j m hjm, ← harmed]
        exact and_iff_right hjm
  | arm i k n hn ht hi hw =>
    have hd := congrArg Timer.deadlines ht
    refine ⟨hd ▸ arm_distinct hpair i k n, fun j m => ?_⟩
    rw [armed_congr hd, arm_armed]
    by_cases hjm : j = i ∧ m = k
    · obtain ⟨rfl, rfl⟩ := hjm
      simp [hi]
    · rw [hw j m hjm, ← harmed]
      exact or_iff_right hjm

theorem Rearms.deadlinesWanted {s t : State} (h : Rearms s t) (hs : DeadlinesWanted s) : DeadlinesWanted t := by
  induction h with
  | refl => exact hs
  | tail _ hr ih => exact hr.deadlinesWanted ih

/-- The counter's advance moves no entry out or in (R96). -/
theorem advance_deadlinesWanted {s : State} (hs : DeadlinesWanted s) : DeadlinesWanted (s.setTimer s.timer.advance) := by
  obtain ⟨hpair, harmed⟩ := hs
  refine ⟨?_, fun i k => Iff.trans ?_ (harmed i k)⟩
  · rw [setTimer_timer, advance_deadlines, List.pairwise_map]
    exact hpair
  · simp [State.armed, advance_deadlines]

theorem deadlinesWanted_reset {t : State} (ht : t.timer = Timer.reset) (hd : t.dir = Directory.reset) : DeadlinesWanted t := by
  have hw : ∀ i k, t.wants i k = State.reset.wants i k := fun i => wants_congr (by unfold State.point; rw [hd]; rfl)
  exact (deadlinesExact_iff.mp deadlinesExact_reset).2.of_stays (by rw [ht]; rfl) hw

/-- Settles O54: an update of a RETIRING point is never open (`step_retiringClosed`), and each move of the list goes with what the points
then want (`Rearm.deadlinesWanted`). -/
theorem deadlinesAlwaysExact : Obligations.DeadlinesAlwaysExact := by
  intro s t hs h
  obtain ⟨hclosed, hwanted⟩ := deadlinesExact_iff.mp hs
  refine deadlinesExact_iff.mpr ⟨step_retiringClosed hclosed h, ?_⟩
  obtain ⟨rest, hstep⟩ := step_timerStep h
  have hrest : DeadlinesWanted { s with pending := rest } := hwanted
  cases hstep with
  | rearms hr => exact hr.deadlinesWanted hrest
  | advance ht => exact ht ▸ advance_deadlinesWanted hrest
  | reset ht hd => exact deadlinesWanted_reset ht hd

/-! ## The order of the list (R96) -/

/-- The timer unit's list is in order, its entries that are not due are 1 to 65535 ticks ahead, and its values are in range. -/
structure Timer.Sound (t : Timer) : Prop where
  order : t.deadlines.Pairwise (Deadline.Before t.tick)
  ahead : ∀ d ∈ t.deadlines, d.due = false → 1 ≤ d.distance t.tick ∧ d.distance t.tick ≤ 65535
  inRange : t.InRange

theorem timerSound_iff {s : State} : TimerSound s ↔ s.timer.Sound := by
  have hbefore : ∀ a b : Deadline, a.Before s.timer.tick b ↔
      (a.due = false → b.due = false) ∧ (a.due = false → b.due = false → b.ahead s.timer.tick a = false) := fun a b => by
    rw [ahead_eq_false_iff]
    exact ⟨fun h => ⟨fun ha => (h ha).1, fun ha _ => (h ha).2⟩, fun ⟨hdue, hplace⟩ ha => ⟨hdue ha, hplace ha (hdue ha)⟩⟩
  constructor
  · rintro ⟨hdue, hplace, hahead, hrange⟩
    exact ⟨(hdue.and hplace).imp fun {a b} hab => (hbefore a b).mpr hab, hahead, hrange⟩
  · rintro ⟨horder, hahead, hrange⟩
    exact ⟨horder.imp fun {a b} hab => ((hbefore a b).mp hab).1, horder.imp fun {a b} hab => ((hbefore a b).mp hab).2, hahead, hrange⟩

theorem Rearm.timerSound {s t : State} (h : Rearm s t) (hs : s.timer.Sound) : t.timer.Sound := by
  obtain ⟨horder, hahead, hrange⟩ := hs
  cases h with
  | stay ht hw =>
    obtain ⟨htick, hd, hr⟩ := ht
    refine ⟨?_, ?_, hr hrange⟩
    · rw [htick, hd]; exact horder
    · rw [htick, hd]; exact hahead
  | disarm i k ht hi hw =>
    rw [ht, disarm_timer]
    exact ⟨horder.filter _, fun d hd => hahead d (List.mem_filter.mp hd).1, hrange⟩
  | arm i k n hn ht hi hw =>
    obtain ⟨h1, h2⟩ := hn hrange
    rw [ht, arm_timer]
    refine ⟨insertDeadline_pairwise rfl (horder.filter _), fun d hd hdue => ?_, hrange⟩
    rcases (mem_insertDeadline ..).mp hd with rfl | hd
    · rw [distance_of_armed _ h2]
      exact ⟨h1, h2⟩
    · exact hahead d (List.mem_filter.mp hd).1 hdue

/-- No move makes an entry due, and those that are left stay in their order. -/
theorem Rearm.due_sublist {s t : State} (h : Rearm s t) :
    (t.timer.deadlines.filter fun d => d.due).Sublist (s.timer.deadlines.filter fun d => d.due) := by
  cases h with
  | stay ht hw => rw [ht.deadlines]
  | disarm i k ht hi hw =>
    rw [ht, disarm_timer]
    exact List.filter_sublist.filter _
  | arm i k n hn ht hi hw =>
    rw [ht, arm_timer]
    simp only [insertDeadline_filter_due]
    exact List.filter_sublist.filter _

theorem Rearms.timerSound {s t : State} (h : Rearms s t) (hs : s.timer.Sound) : t.timer.Sound := by
  induction h with
  | refl => exact hs
  | tail _ hr ih => exact hr.timerSound ih

theorem Rearms.due_sublist {s t : State} (h : Rearms s t) :
    (t.timer.deadlines.filter fun d => d.due).Sublist (s.timer.deadlines.filter fun d => d.due) := by
  induction h with
  | refl => exact .refl _
  | tail _ hr ih => exact hr.due_sublist.trans ih

/-- Where nothing falls due, the due entries that are left keep their order. -/
theorem dueInOrder_of_sublist {s t : State}
    (h : (t.timer.deadlines.filter fun d => d.due).Sublist (s.timer.deadlines.filter fun d => d.due)) : DueInOrder s t :=
  ⟨_, [], (List.append_nil _).symm, h, nofun, .nil⟩

/-- The entries of the next tick become due and the others come one tick nearer, in their order (R96). -/
theorem Timer.Sound.advance {t : Timer} (h : t.Sound) : t.advance.Sound := by
  obtain ⟨horder, hahead, h1, h2, -⟩ := h
  refine ⟨?_, fun d hd hdue => ?_, h1, h2, Nat.zero_le _⟩
  · rw [advance_deadlines, List.pairwise_map]
    exact horder.imp_of_mem fun ha _ hab => hab.mark fun hd => (hahead _ ha hd).1
  · rw [advance_deadlines] at hd
    obtain ⟨e, he, rfl⟩ := List.mem_map.mp hd
    obtain ⟨hdue', hne⟩ := mark_due_eq_false_iff.mp hdue
    obtain ⟨hl, hu⟩ := hahead e he hdue'
    rw [ne_eq, dueTick_eq_succ_iff] at hne
    have hs : (e.mark (t.tick + 1)).distance (t.tick + 1) = e.distance t.tick - 1 := distance_succ hl
    have ht : t.advance.tick = t.tick + 1 := rfl
    rw [ht, hs]
    omega

/-- The entries that fall due at one tick stand by slot, and for one slot HOLD before FRESH (R96). -/
theorem fallDue_pairwise {now : BitVec 32} {l : List Deadline} (h : l.Pairwise (Deadline.Before now)) :
    (fallDue (now + 1) l).Pairwise fun a b => a.slot < b.slot ∨ (a.slot = b.slot ∧ (a.kind = .hold ∨ b.kind = .fresh)) := by
  rw [fallDue, List.pairwise_map]
  refine (h.filter _).imp_of_mem fun {a b} ha hb hab => ?_
  have hfall : ∀ d ∈ l.filter (fun d => !d.due && d.dueTick == now + 1), d.due = false ∧ d.distance now = 1 := fun d hd => by
    simpa only [Bool.and_eq_true, Bool.not_eq_true', beq_iff_eq, dueTick_eq_succ_iff] using (List.mem_filter.mp hd).2
  obtain ⟨had, hat⟩ := hfall a ha
  obtain ⟨-, hbt⟩ := hfall b hb
  obtain ⟨-, hp⟩ := hab had
  simp only [Deadline.place, hat, hbt] at hp
  have hranks : a.slot = b.slot → a.kind.rank ≤ b.kind.rank := fun hs => by
    rw [hs] at hp
    omega
  have hkinds : a.kind.rank ≤ b.kind.rank → a.kind = .hold ∨ b.kind = .fresh := by
    cases a.kind <;> cases b.kind <;> simp [DeadlineKind.rank]
  have hslots : a.slot ≤ b.slot := by
    have hka := rank_lt a.kind
    have hkb := rank_lt b.kind
    rw [Fin.le_def]
    omega
  exact hslots.lt_or_eq.imp_right fun hs => ⟨hs, hkinds (hranks hs)⟩

/-- The entries that fall due were in the list, with the tick now reached as their due tick. -/
theorem mem_fallDue {now : BitVec 32} {l : List Deadline} {d : Deadline} (h : d ∈ fallDue now l) :
    d.dueTick = now ∧ { d with due := false } ∈ l := by
  obtain ⟨e, he, rfl⟩ := List.mem_map.mp h
  obtain ⟨hmem, hfall⟩ := List.mem_filter.mp he
  simp only [Bool.and_eq_true, Bool.not_eq_true', beq_iff_eq] at hfall
  obtain ⟨hdue, htick⟩ := hfall
  refine ⟨htick, ?_⟩
  have hself : { e.mark now with due := false } = e := by rw [← hdue]; rfl
  rw [hself]
  exact hmem

theorem advance_dueInOrder {s : State} (hs : s.timer.Sound) : DueInOrder s (s.setTimer s.timer.advance) := by
  have hdue : s.timer.deadlines.Pairwise fun a b => a.due = false → b.due = false := hs.order.imp fun hab ha => (hab ha).1
  exact ⟨_, fallDue (s.timer.tick + 1) s.timer.deadlines, filter_due_mark hdue, .refl _, fun d hd => mem_fallDue hd,
    fallDue_pairwise hs.order⟩

/-- Settles O55: moves of the list keep its order and make nothing due (`Rearm.timerSound`, `Rearm.due_sublist`), and an advance lets the
entries of the next tick join the due ones (`Timer.Sound.advance`, `advance_dueInOrder`). -/
theorem timerAlwaysSound : Obligations.TimerAlwaysSound := by
  intro s t hs h
  rw [timerSound_iff] at hs ⊢
  obtain ⟨rest, hstep⟩ := step_timerStep h
  have hrest : State.timer { s with pending := rest } = s.timer := rfl
  cases hstep with
  | rearms hr => exact ⟨hr.timerSound (hrest ▸ hs), dueInOrder_of_sublist hr.due_sublist⟩
  | advance ht =>
    subst ht
    exact ⟨hs.advance, advance_dueInOrder hs⟩
  | reset ht hd =>
    have hsound : State.reset.timer.Sound := timerSound_iff.mp timerSound_reset
    refine ⟨ht ▸ hsound, dueInOrder_of_sublist ?_⟩
    rw [ht]
    exact List.nil_sublist _

end Sys2Proof.Machine
end

section
/-! SUPPORT. The time base and the expiries: TIMING, TICK, EXPIRY_REQUEST, a period of the part's clock, and the taken FRESH and HOLD
expiries. -/

namespace Sys2Proof.Machine

open Host (Outcome)

/-! ## The part's own clock -/

/-- Settles O2: a step on an empty queue is a clock period, read off in each supply state. -/
theorem clockPeriod : Obligations.ClockPeriod := by
  intro s hq
  have hstep : step s = .next s.clockPeriod := by
    unfold step
    rw [hq]
  rw [hstep]
  refine ⟨fun hr hlt => ?_, fun hr heq => ?_, fun hs hlt => ?_, fun hs heq => ?_, ?_⟩
  · rw [State.clockPeriod, hr]
    exact congrArg Outcome.next (if_neg (by omega))
  · rw [State.clockPeriod, hr]
    exact congrArg Outcome.next (if_pos (by omega))
  · rw [State.clockPeriod, hs]
    exact congrArg Outcome.next (if_neg (by simp only [Config.clockPeriod, Config.settleInterval]; omega))
  · rw [State.clockPeriod, hs]
    exact congrArg Outcome.next (if_pos (by simp only [Config.clockPeriod, Config.settleInterval]; omega))
  · rintro (h | h) <;> rw [State.clockPeriod, h]

/-! ## TIMING -/

/-- The first refusal of R94 that applies to a TIMING of port `p`. -/
theorem timing_firstRefusal (s : State) (p : Port) (tickdiv : Byte) (holdlim : BitVec 16) :
    firstRefusal (s.refusals p (.timing tickdiv holdlim)) =
      if p ≠ s.supervisor then .notSupervisor else if holdlim.toNat = 0 ∨ 4095 < holdlim.toNat then .range else .ok := by
  simp only [State.refusals, firstRefusal, bne_iff_ne, decide_eq_true_eq]

/-- Settles O36: the refusals by `timingOp_refuses`, else the operation's new values. -/
theorem timingTaken : Obligations.TimingTaken := by
  intro s p tag tickdiv holdlim ht
  have hfirst := timing_firstRefusal s p tickdiv holdlim
  have hrefused := refused_answered ht rfl (timingOp_refuses p (s.setGrant (.port p)) tickdiv holdlim)
  by_cases hp : p = s.supervisor
  · rw [if_neg (not_not.mpr hp)] at hfirst
    by_cases hh : holdlim.toNat = 0 ∨ 4095 < holdlim.toNat
    · rw [if_pos hh] at hfirst
      rw [hfirst] at hrefused
      obtain ⟨t, he, ha⟩ := hrefused nofun
      exact ⟨t, he, fun hn => (hn hp).elim, fun _ _ => ha, fun _ h1 h2 => by omega⟩
    · have hop : timingOp p tickdiv holdlim (s.setGrant (.port p)) =
          ((s.setGrant (.port p)).setTimer { s.timer with tickdiv := tickdiv, holdlim := holdlim.toNat, subTick := 0 }, .ok []) :=
        (if_neg (not_not.mpr hp)).trans (if_neg hh)
      obtain ⟨t, he, ha, hd, hn, htimer⟩ := passed_answered ht rfl hop (fun _ => rfl) rfl rfl rfl rfl
      exact ⟨t, he, fun hn => (hn hp).elim, fun _ hbad => (hh hbad).elim, fun _ _ _ => ⟨ha, hd, hn, htimer⟩⟩
  · rw [if_pos hp] at hfirst
    rw [hfirst] at hrefused
    obtain ⟨t, he, ha⟩ := hrefused nofun
    exact ⟨t, he, fun _ => ha, fun hs => (hp hs).elim, fun hs => (hp hs).elim⟩

/-! ## TICK and EXPIRY_REQUEST -/

/-- An entry is marked due exactly by the tick it names, and is else as it was (R96). -/
theorem mark_eq (now : BitVec 32) (d : Deadline) : d.mark now = if d.dueTick = now then { d with due := true } else d := by
  unfold Deadline.mark
  split
  · next h => rw [h, beq_self_eq_true, Bool.or_true]
  · next h => rw [beq_eq_false_iff_ne.mpr h, Bool.or_false]

/-- Settles O37: TICK is `Timer.advance`, and EXPIRY_REQUEST reads the head of the list. -/
theorem ticksAndExpiryRequests : Obligations.TicksAndExpiryRequests := by
  intro s
  refine ⟨fun hr => ⟨s.setTimer s.timer.advance, if_pos hr, rfl, ?_, rfl, rfl, rfl, rfl, ?_⟩, fun d l hr hl hd => ?_⟩
  · exact BitVec.toNat_add s.timer.tick 1
  · exact List.map_congr_left fun d _ => mark_eq _ d
  · show execExpiryRequest s = _
    unfold execExpiryRequest
    simp only [hr, hl, hd, if_true]
    rfl

/-! ## Grants to the timer unit -/

/-- The timer unit's grant as the expiry finds it: nothing presented (R99). -/
def State.timerTaken (s : State) : State := (s.setTimer { s.timer with request := none }).setGrant .timer

theorem isDue_eq_true_iff {s : State} {i : Slot} {k : DeadlineKind} :
    s.isDue i k = true ↔ ∃ d ∈ s.timer.deadlines, d.slot = i ∧ d.kind = k ∧ d.due = true := by
  simp only [State.isDue, List.any_eq_true, Bool.and_eq_true, names_eq_true_iff, and_assoc]

section
variable {s : State} {i : Slot} {k : DeadlineKind} (hr : s.timer.request = some (i, k)) (hg : s.nextGrant = some .timer)
include hr hg

/-- A granted expiry with a due entry is carried out (R100). -/
theorem exec_expiry_of_due (h : ∃ d ∈ s.timer.deadlines, d.slot = i ∧ d.kind = k ∧ d.due = true) :
    exec (k.command i) s = .next (s.timerTaken.expire i k) := by
  have hgrant := grantTimer_granted (fun s => s.expire i k) hr hg
  rw [if_pos (isDue_eq_true_iff.mpr h)] at hgrant
  cases k <;> exact hgrant

/-- A granted expiry with no due entry is dropped, and uses the grant (R100). -/
theorem exec_expiry_of_not_due (h : ∀ d ∈ s.timer.deadlines, d.slot = i → d.kind = k → d.due = false) :
    exec (k.command i) s = .next s.timerTaken := by
  have hgrant := grantTimer_granted (fun s => s.expire i k) hr hg
  rw [if_neg fun hd => ?_] at hgrant
  · cases k <;> exact hgrant
  · obtain ⟨d, hmem, hi, hk, hdue⟩ := isDue_eq_true_iff.mp hd
    rw [h d hmem hi hk] at hdue
    cases hdue

end

/-! ## FRESH_EXPIRY -/

/-- The STALE notice, by filter `f`, of the point's expiry (R101, R72). -/
def Point.staleNotice (pt : Point) (i : Slot) (f : FilterNo) : Notice := .stale i pt.key pt.version f false

/-- The expiry of a LIVE point: the entry leaves, the point is STALE, then STALE is routed (R101). -/
theorem expireFresh_eq {s : State} {i : Slot} {pt : Point} (h : s.point i = some pt) (hs : pt.state = .live) :
    s.expireFresh i =
      ((s.disarm i .fresh).setPoint i (some { pt with state := .stale })).route i .stale (pt.staleNotice i) := by
  have hp : ((s.disarm i .fresh).setPoint i (some { pt with state := .stale })).point i = some { pt with state := .stale } := by simp
  calc s.expireFresh i = ((s.disarm i .fresh).setPoint i (some { pt with state := .stale })).routeStale i := by
        unfold State.expireFresh
        simp only [disarm_point, h, hs, if_true]
    _ = _ := by unfold State.routeStale; rw [hp]; rfl

/-- Settles O38: a due entry is carried out on a LIVE point (R95) as `expireFresh_eq` says, with the deliveries of `route_spec`. -/
theorem freshExpiryTaken : Obligations.FreshExpiryTaken := by
  intro s i hr hg
  refine ⟨fun hexact hdue => ?_, exec_expiry_of_not_due hr hg⟩
  obtain ⟨-, hfresh, -⟩ := hexact
  have he : exec (.freshExpiry i) s = .next (s.timerTaken.expireFresh i) := exec_expiry_of_due hr hg hdue
  obtain ⟨d, hmem, hi, hk, -⟩ := hdue
  obtain ⟨pt, hpt, hlive, -⟩ := (hfresh i).mp ⟨d, hmem, hi, hk⟩
  rw [expireFresh_eq (s := s.timerTaken) hpt hlive] at he
  set u := (s.timerTaken.disarm i .fresh).setPoint i (some { pt with state := .stale }) with hu
  have hdel : u.delivery { pt with state := .stale } .stale (pt.staleNotice i) = s.delivery pt .stale (pt.staleNotice i) :=
    delivery_of_same rfl rfl rfl rfl rfl _ _
  obtain ⟨hqueue, hpoint, hothers⟩ :=
    route_spec u i .stale (pt.staleNotice i) (fun _ => rfl) { pt with state := .stale } ((setPoint_point ..).trans (if_pos rfl))
  rw [deliveries_of_same hdel] at hpoint
  refine ⟨_, pt, pt.staleNotice i, he, hpt, hlive, fun _ => rfl, hpoint,
    (setPoint_otherSlotsKept (s.timerTaken.disarm i .fresh) i _).trans hothers, ⟨route_index .., route_freeGranules ..⟩,
    route_openUpdates u i .stale _, route_filters u i .stale _, fun q => ?_, ?_, ?_⟩
  · rw [hqueue, hdel]
  · rw [route_timer]; rfl
  · exact ⟨route_lastGrant .., route_engines .., route_standing .., route_supply .., route_pending ..⟩

/-! ## HOLD_EXPIRY -/

/-- What an offer does to the queues depends on the notice unit and on who is mute (R76 to R78). -/
theorem offered_of_same {s t : State} (hn : t.notices = s.notices) (hs : t.standing = s.standing) (p : Port) (n : Notice) (q : Port) :
    t.offered p n q = s.offered p n q := by
  have hm : t.mute p = s.mute p := by simp only [State.mute, State.record, hs]
  have hq : t.queue q = s.queue q := by simp only [State.queue, hn]
  unfold State.offered
  rw [hm, hq]

/-- The expiry of an open update: the entry leaves, the update is closed, then EXPIRED is offered (R102). -/
theorem expireHold_eq {s : State} {i : Slot} {pt : Point} (h : s.point i = some pt) (hu : pt.updateOpen = true) :
    s.expireHold i = ((s.disarm i .hold).closeUpdate i).offer pt.owner (.expired i pt.key false) := by
  unfold State.expireHold State.expireUpdate
  simp only [disarm_point, h, hu, if_true]

/-- Settles O39: a due entry is carried out on a point with an update open (R95) as `expireHold_eq` says, by `closeUpdate_of_open` and
`offer_point_named`. -/
theorem holdExpiryTaken : Obligations.HoldExpiryTaken := by
  intro s i hr hg
  refine ⟨fun hexact hdue => ?_, exec_expiry_of_not_due hr hg⟩
  obtain ⟨-, -, hhold, -⟩ := hexact
  have he : exec (.holdExpiry i) s = .next (s.timerTaken.expireHold i) := exec_expiry_of_due hr hg hdue
  obtain ⟨d, hmem, hi, hk, -⟩ := hdue
  obtain ⟨pt, hpt, hopen⟩ := (hhold i).mp ⟨d, hmem, hi, hk⟩
  rw [expireHold_eq (s := s.timerTaken) hpt hopen] at he
  obtain ⟨hclosed, hothers, ⟨hcount, hcounts⟩, -⟩ := closeUpdate_of_open (s := s.timerTaken.disarm i .hold) hpt hopen
  have htimer := disarm_closeUpdate_timer s.timerTaken i
  set u := (s.timerTaken.disarm i .hold).closeUpdate i with hu
  obtain ⟨hpoint, hkept⟩ := offer_point_named hclosed pt.owner (n := .expired i pt.key false) rfl
  have hoffered : ∀ q, u.offered pt.owner (.expired i pt.key false) q = s.offered pt.owner (.expired i pt.key false) q :=
    offered_of_same (closeUpdate_notices ..) (closeUpdate_standing ..) _ _
  refine ⟨_, pt, he, hpt, hopen, ?_, hothers.trans hkept, ⟨?_, ?_⟩, ⟨?_, fun q hq => ?_⟩, fun q => ?_, fun q => ?_, ?_, ?_⟩
  · rw [hpoint, hoffered]
  · rw [offer_index, hu, closeUpdate_index]; rfl
  · rw [offer_freeGranules, hu, closeUpdate_freeGranules]; rfl
  · rw [offer_openUpdates]; exact hcount
  · rw [offer_openUpdates]; exact hcounts q hq
  · rw [offer_filters, hu, closeUpdate_filters]; rfl
  · exact (offer_queuesAre u _ _ q).trans (congrArg Prod.fst (hoffered q))
  · rw [offer_timer, htimer]; rfl
  · simp only [TimerGranted, offer_lastGrant, offer_engines, offer_standing, offer_supply, offer_pending, hu, closeUpdate_lastGrant,
      closeUpdate_engines, closeUpdate_standing, closeUpdate_supply, closeUpdate_pending]
    exact ⟨rfl, rfl, rfl, rfl, rfl⟩

end Sys2Proof.Machine
end

section
/-! SUPPORT. Orphaned points (R121): which operations keep every point as orphaned as its owner's standing has it, said once for each. Most
keep flags, owner and standing together (`OrphansKept`); SEVER, RESTORATION_COMPLETE, CREATE, RETIRE and REASSIGN move them, and come one by
one. -/

namespace Sys2Proof.Machine

/-! ## One record -/

/-- Port `p` stands SEVERED or RESTORING: its living points are orphaned (R121). -/
def State.lost (s : State) (p : Port) : Prop := (s.record p).standing = .severed ∨ (s.record p).standing = .restoring

/-- What R121, R33 and R47 say of one record, `lost` being whether its owner stands SEVERED or RESTORING. -/
structure Point.OrphanExact (lost : Prop) (pt : Point) : Prop where
  orphaned : pt.orphaned = true ↔ pt.state ≠ .retiring ∧ lost
  quiet : pt.orphaned = true → pt.updateOpen = false ∧ pt.refreshPending = false

theorem orphansExact_iff {s : State} : OrphansExact s ↔ ∀ i pt, s.point i = some pt → pt.OrphanExact (s.lost pt.owner) :=
  ⟨fun h i pt hp => ⟨(h i pt hp).1, (h i pt hp).2⟩, fun h i pt hp => ⟨(h i pt hp).orphaned, (h i pt hp).quiet⟩⟩

/-- `qt` is as orphaned as `pt`, RETIRING if `pt` is, of the same owner, and has no update or refresh request that an orphaned `pt` had not. -/
structure Point.OrphanKept (pt qt : Point) : Prop where
  owner : qt.owner = pt.owner
  orphaned : qt.orphaned = pt.orphaned
  retiring : qt.state = .retiring ↔ pt.state = .retiring
  quiet : pt.orphaned = true → pt.updateOpen = false ∧ pt.refreshPending = false → qt.updateOpen = false ∧ qt.refreshPending = false

theorem Point.OrphanKept.refl (pt : Point) : pt.OrphanKept pt := ⟨rfl, rfl, .rfl, fun _ => id⟩

theorem Point.OrphanKept.trans {a b c : Point} (h : a.OrphanKept b) (h' : b.OrphanKept c) : a.OrphanKept c :=
  ⟨h'.owner.trans h.owner, h'.orphaned.trans h.orphaned, h'.retiring.trans h.retiring,
    fun ho hq => h'.quiet (h.orphaned.trans ho) (h.quiet ho hq)⟩

theorem Point.orphanKept_refs (pt : Point) (n : Nat) : pt.OrphanKept { pt with refs := n } := ⟨rfl, rfl, .rfl, fun _ => id⟩

theorem Point.orphanKept_closed (pt : Point) : pt.OrphanKept { pt with updateOpen := false } :=
  ⟨rfl, rfl, .rfl, fun _ h => ⟨rfl, h.2⟩⟩

theorem Point.OrphanExact.of_kept {lost lost' : Prop} {pt qt : Point} (h : pt.OrphanExact lost) (hk : pt.OrphanKept qt)
    (hl : lost' ↔ lost) : qt.OrphanExact lost' := by
  constructor
  · rw [hk.orphaned, ne_eq, hk.retiring, hl]
    exact h.orphaned
  · intro ho
    rw [hk.orphaned] at ho
    exact hk.quiet ho (h.quiet ho)

/-- No point of a port in good standing is orphaned. -/
theorem Point.OrphanExact.not_orphaned {lost : Prop} {pt : Point} (h : pt.OrphanExact lost) (hl : ¬lost) : pt.orphaned = false := by
  by_contra ho
  exact hl (h.orphaned.mp (by simpa using ho)).2

/-! ## Operations that keep orphans -/

/-- Every point of `t` is a point of `s` with its flags kept, and the same ports stand SEVERED or RESTORING. -/
structure OrphansKept (s t : State) : Prop where
  points : ∀ i qt, t.point i = some qt → ∃ pt, s.point i = some pt ∧ pt.OrphanKept qt
  lost : ∀ p, t.lost p ↔ s.lost p

theorem OrphansExact.of_kept {s t : State} (hs : OrphansExact s) (h : OrphansKept s t) : OrphansExact t := by
  rw [orphansExact_iff] at hs ⊢
  intro i qt hq
  obtain ⟨pt, hp, hk⟩ := h.points i qt hq
  exact (hs i pt hp).of_kept hk (hk.owner ▸ h.lost qt.owner)

theorem OrphansKept.refl (s : State) : OrphansKept s s := ⟨fun _ qt h => ⟨qt, h, .refl qt⟩, fun _ => .rfl⟩

theorem OrphansKept.trans {s t u : State} (h : OrphansKept s t) (h' : OrphansKept t u) : OrphansKept s u := by
  refine ⟨fun i rt hr => ?_, fun p => (h'.lost p).trans (h.lost p)⟩
  obtain ⟨qt, hq, hk'⟩ := h'.points i rt hr
  obtain ⟨pt, hp, hk⟩ := h.points i qt hq
  exact ⟨pt, hp, hk.trans hk'⟩

theorem lost_congr {s t : State} {p : Port} (h : t.record p = s.record p) : t.lost p ↔ s.lost p := by
  unfold State.lost; rw [h]

/-- An operation that moves no point keeps the orphans if it keeps the standings apart that R121 tells apart. -/
theorem OrphansKept.of_lost {s t : State} (hp : ∀ i, t.point i = s.point i) (hl : ∀ p, t.lost p ↔ s.lost p) : OrphansKept s t :=
  ⟨fun i qt h => ⟨qt, (hp i).symm.trans h, .refl qt⟩, hl⟩

theorem OrphansKept.of_same {s t : State} (hp : ∀ i, t.point i = s.point i) (hr : ∀ p, t.record p = s.record p) :
    OrphansKept s t :=
  .of_lost hp fun p => lost_congr (hr p)

/-- An operation that maps the points keeps the orphans if its map does. -/
theorem OrphansKept.of_map {s t : State} (hr : ∀ p, t.record p = s.record p)
    (hp : ∀ i, ∃ f : Point → Point, (∀ pt : Point, pt.OrphanKept (f pt)) ∧ t.point i = (s.point i).map f) : OrphansKept s t := by
  refine ⟨fun i qt hq => ?_, fun p => lost_congr (hr p)⟩
  obtain ⟨f, hf, ht⟩ := hp i
  obtain ⟨pt, hpt, rfl⟩ := Option.map_eq_some_iff.mp (ht.symm.trans hq)
  exact ⟨pt, hpt, hf pt⟩

theorem foldl_orphansKept {α : Type} {f : State → α → State} (hf : ∀ s a, OrphansKept s (f s a)) (l : List α) (s : State) :
    OrphansKept s (l.foldl f s) := by
  induction l generalizing s with
  | nil => exact .refl s
  | cons a l ih => exact (hf s a).trans (ih (f s a))

theorem setPoint_orphansKept {s : State} {i : Slot} {pt qt : Point} (h : s.point i = some pt) (hk : pt.OrphanKept qt) :
    OrphansKept s (s.setPoint i (some qt)) := by
  refine ⟨fun j rt hr => ?_, fun _ => .rfl⟩
  rw [setPoint_point] at hr
  split at hr
  · next hij => subst hij; cases hr; exact ⟨pt, h, hk⟩
  · exact ⟨rt, hr, .refl rt⟩

theorem offer_orphansKept (s : State) (p : Port) (n : Notice) : OrphansKept s (s.offer p n) := by
  refine .of_map (by simp) fun i => ?_
  rw [offer_point]
  split
  · exact ⟨_, fun pt => pt.orphanKept_refs _, rfl⟩
  · exact ⟨id, .refl, Option.map_id'.symm⟩

theorem offerStanding_orphansKept (s : State) (p : Port) (st : Standing) : OrphansKept s (s.offerStanding p st) :=
  offer_orphansKept s _ _

theorem route_orphansKept (s : State) (i : Slot) (k : WatchKind) (mk : FilterNo → Notice) : OrphansKept s (s.route i k mk) := by
  refine foldl_orphansKept (fun s p => ?_) allPorts s
  unfold State.routeTo
  split
  · exact .refl s
  · split
    · exact .refl s
    · exact offer_orphansKept ..

theorem routeStale_orphansKept (s : State) (i : Slot) : OrphansKept s (s.routeStale i) := by
  unfold State.routeStale
  split
  · exact .refl s
  · exact route_orphansKept ..

theorem routeRetired_orphansKept (s : State) (i : Slot) : OrphansKept s (s.routeRetired i) := by
  unfold State.routeRetired
  split
  · exact .refl s
  · exact route_orphansKept ..

theorem routeOwner_orphansKept (o : Option Port) (s : State) (i : Slot) : OrphansKept s (State.routeOwner o s i) := by
  unfold State.routeOwner
  split
  · exact .refl s
  · exact route_orphansKept ..

/-- A drained slot that is not freed keeps its flags (R19, R20). -/
theorem releaseRefs_orphansKept (s : State) (ns : List Notice) : OrphansKept s (s.releaseRefs ns) := by
  refine ⟨fun i qt hq => ?_, fun p => lost_congr (by simp)⟩
  rw [releaseRefs_point] at hq
  obtain ⟨pt, hp, rfl, -⟩ := drained_eq_some hq
  exact ⟨pt, hp, pt.orphanKept_refs _⟩

theorem setQueue_orphansKept (s : State) (p : Port) (q : List Notice) : OrphansKept s (s.setQueue p q) := .of_same (fun _ => rfl) fun _ => rfl

theorem flushQueue_orphansKept (s : State) (p : Port) : OrphansKept s (s.flushQueue p) :=
  (setQueue_orphansKept s p []).trans (releaseRefs_orphansKept _ _)

theorem clearPort_orphansKept (s : State) (p : Port) : OrphansKept s (s.clearPort p) := .of_same (fun _ => rfl) fun _ => rfl

theorem disarm_orphansKept (s : State) (i : Slot) (k : DeadlineKind) : OrphansKept s (s.disarm i k) := .of_same (fun _ => rfl) fun _ => rfl

theorem arm_orphansKept (s : State) (i : Slot) (k : DeadlineKind) (n : Nat) : OrphansKept s (s.arm i k n) :=
  .of_same (fun _ => rfl) fun _ => rfl

theorem closeUpdate_orphansKept (s : State) (i : Slot) : OrphansKept s (s.closeUpdate i) := by
  refine .of_map (by simp) fun j => ?_
  rw [closeUpdate_point]
  split
  · exact ⟨_, Point.orphanKept_closed, rfl⟩
  · exact ⟨id, .refl, Option.map_id'.symm⟩

theorem expireUpdate_orphansKept (s : State) (i : Slot) : OrphansKept s (s.expireUpdate i) := by
  unfold State.expireUpdate
  split
  · exact .refl s
  · split
    · exact (closeUpdate_orphansKept s i).trans (offer_orphansKept ..)
    · exact .refl s

theorem publish_orphansKept {s : State} {i : Slot} {pt : Point} (h : s.point i = some pt) (hs : pt.state ≠ .retiring) :
    OrphansKept s (s.publish i) := by
  have hk : pt.OrphanKept pt.committedPending :=
    ⟨rfl, rfl, by simp [Point.committedPending, hs], fun _ hq => ⟨hq.1, rfl⟩⟩
  obtain ⟨-, hst⟩ := renewFresh_keeps (s.setPoint i (some pt.committedPending)) i pt
  rw [publish_eq h]
  refine ((setPoint_orphansKept h hk).trans (.of_map (fun p => ?_) fun j => ?_)).trans (route_orphansKept ..)
  · unfold State.record; rw [hst]
  · exact ⟨id, .refl, by rw [renewFresh_point]; exact Option.map_id'.symm⟩

theorem remindOwner_orphansKept (s : State) (i : Slot) : OrphansKept s (s.remindOwner i) := by
  unfold State.remindOwner
  split
  · exact .refl s
  · split
    · exact offer_orphansKept ..
    · exact .refl s

/-- A slot that is freed leaves the others' points. -/
theorem freeIfUnnamed_orphansKept (s : State) (i : Slot) : OrphansKept s (s.freeIfUnnamed i) := by
  unfold State.freeIfUnnamed
  split
  · exact .refl s
  · split
    · refine ⟨fun j qt hq => ?_, fun p => lost_congr (by simp)⟩
      rw [freeSlot_point, Option.ite_none_left_eq_some] at hq
      exact ⟨qt, hq.2, .refl qt⟩
    · exact .refl s

/-! ## Operations that move one point's owner or flag -/

theorem OrphansExact.setPoint {s : State} (hs : OrphansExact s) (i : Slot) {qt : Point} (hq : qt.OrphanExact (s.lost qt.owner)) :
    OrphansExact (s.setPoint i (some qt)) := by
  rw [orphansExact_iff] at hs ⊢
  intro j rt hr
  rw [setPoint_point] at hr
  split at hr
  · cases hr; exact hq
  · exact hs j rt hr

/-- A point that is neither orphaned nor of a SEVERED or RESTORING owner is as R121 has it. -/
theorem Point.OrphanExact.of_not_lost {lost : Prop} {pt : Point} (h : pt.orphaned = false) (hl : ¬lost) : pt.OrphanExact lost :=
  ⟨by simp [h, hl], by simp [h]⟩

/-- A RETIRING point is not orphaned, whoever owns it (R111, step 4). -/
theorem Point.OrphanExact.retired (lost : Prop) (pt : Point) : pt.retired.OrphanExact lost := by
  constructor <;> simp [Point.retired]

/-- A new point of a port in good standing, not orphaned (R23). -/
theorem OrphansExact.createOp {s : State} (hs : OrphansExact s) {p : Port} (hp : (s.record p).standing ≠ .severed) (key : Key)
    (width : Byte) (readers : PortSet) (fresh : BitVec 16) : OrphansExact (createOp p key width readers fresh s).1 := by
  fun_cases Machine.createOp p key width readers fresh s with
  | case6 hl hw hk i hi hg =>
    have hlost : ¬s.lost p := by
      simp only [State.limited, Bool.or_eq_true, beq_iff_eq, not_or] at hl
      exact not_or.mpr ⟨hp, hl.2⟩
    have hset := hs.setPoint i (qt := newPoint p key width.toNat readers fresh) (.of_not_lost rfl hlost)
    exact hset.of_kept (.of_same (fun _ => rfl) fun _ => rfl)
  | _ => exact hs

/-- RETIRE leaves the point RETIRING, then with more notices that name it, then perhaps FREE (R111). -/
theorem OrphansExact.retireOp {s : State} (hs : OrphansExact s) (p : Port) (i : Slot) : OrphansExact (retireOp p i s).1 := by
  fun_cases Machine.retireOp p i s with
  | case5 hl pt h ho hst =>
    have hclosed : (s.closeUpdate i).point i = some { pt with updateOpen := false } := by simp [h]
    have hset := (hs.of_kept (closeUpdate_orphansKept s i)).setPoint i (.retired _ { pt with updateOpen := false })
    have hretired : OrphansExact ((s.closeUpdate i).retirePoint i) := by
      rw [retirePoint_eq hclosed]
      exact hset.of_kept (.of_same (fun _ => rfl) fun _ => rfl)
    exact hretired.of_kept ((routeRetired_orphansKept _ i).trans (freeIfUnnamed_orphansKept _ i))
  | _ => exact hs

/-- A point given to a port in good standing is not orphaned (R123, R124). -/
theorem OrphansExact.reassignOp {s : State} (hs : OrphansExact s) (p : Port) (i : Slot) (target : Byte) :
    OrphansExact (reassignOp p i target s).1 := by
  fun_cases Machine.reassignOp p i target s with
  | case6 hp q hq pt h hst hb =>
    have hlost : ¬(s.expireUpdate i).lost q := by
      simp only [State.badTarget, Bool.or_eq_true, beq_iff_eq, not_or] at hb
      obtain ⟨⟨hsev, hres⟩, -⟩ := hb
      rw [(expireUpdate_orphansKept s i).lost]
      exact not_or.mpr ⟨hsev, hres⟩
    obtain ⟨n, hexpired⟩ := expireUpdate_point h
    have hset := (hs.of_kept (expireUpdate_orphansKept s i)).setPoint i
      (qt := { pt with updateOpen := false, refs := pt.refs + n, owner := q, orphaned := false }) (.of_not_lost rfl hlost)
    have hgiven : OrphansExact ((s.expireUpdate i).giveTo i q) := by
      unfold State.giveTo
      rw [hexpired]
      exact hset
    exact hgiven.of_kept ((remindOwner_orphansKept _ i).trans (routeOwner_orphansKept _ _ i))
  | _ => exact hs

/-! ## SEVER and RESTORATION_COMPLETE -/

/-- A standing-unit record written for one port leaves the others' standings. -/
theorem setRecord_lost_ne (s : State) {p q : Port} (h : q ≠ p) (r : StandingRec) : (s.setRecord p r).lost q ↔ s.lost q :=
  lost_congr (by rw [setRecord_record, if_neg (Ne.symm h)])

/-- The points after the sever's step 3 on the slots `l` (R138). -/
theorem orphans_fold_point (l : List Slot) (s : State) (j : Slot) :
    (l.foldl State.orphan s).point j =
      if j ∈ l then (s.point j).map fun pt => { pt with refreshPending := false, orphaned := true } else s.point j := by
  have hturn : ∀ s i, (State.orphan s i).point j =
      if i = j then (s.point j).map fun pt => { pt with refreshPending := false, orphaned := true } else s.point j := by
    intro s i
    unfold State.orphan
    split
    · next h =>
      split
      · next hij => rw [← hij, h]; rfl
      · rfl
    · next pt h =>
      rw [setPoint_point]
      split
      · next hij => rw [← hij, h]; rfl
      · rfl
  induction l generalizing s with
  | nil => simp
  | cons i l ih =>
    rw [List.foldl_cons, ih, hturn]
    by_cases hij : i = j
    · subst hij
      cases s.point i <;> simp
    · simp [hij, Ne.symm hij]

theorem mem_livingSlots {s : State} {p : Port} {i : Slot} :
    i ∈ s.livingSlots p ↔ ∃ pt, s.point i = some pt ∧ pt.owner = p ∧ pt.state ≠ .retiring := by
  unfold State.livingSlots
  cases h : s.point i <;> simp [h, mem_allSlots]

theorem mem_orphanSlots {s : State} {p : Port} {i : Slot} :
    i ∈ s.orphanSlots p ↔ ∃ pt, s.point i = some pt ∧ pt.owner = p ∧ pt.orphaned = true := by
  unfold State.orphanSlots
  cases h : s.point i <;> simp [h, mem_allSlots]

/-- Steps 2 and 3 of R138, on every point. -/
def State.severPoints (s : State) (p : Port) : State := ((s.dropUpdates p).livingSlots p).foldl State.orphan (s.dropUpdates p)

theorem severPoints_point (s : State) (p : Port) (i : Slot) :
    (s.severPoints p).point i = (s.point i).map fun pt => pt.severed p := by
  unfold State.severPoints
  rw [orphans_fold_point]
  simp only [mem_livingSlots, dropUpdates_point]
  cases h : s.point i with
  | none => simp
  | some pt =>
    by_cases ho : pt.owner = p
    · by_cases hr : pt.state = .retiring <;> simp [Point.severed, ho, hr]
    · simp [Point.severed, ho]

theorem severPoints_record (s : State) (p q : Port) : (s.severPoints p).record q = s.record q := by
  have horphan : ∀ s i, (State.orphan s i).record q = s.record q := fun s i => by unfold State.orphan; split <;> simp
  unfold State.severPoints
  rw [foldl_keep (fun s => s.record q) horphan, dropUpdates_keep (fun s => s.record q) (fun s i => ?_) fun _ _ _ => rfl]
  obtain ⟨_, _, h⟩ := dropUpdate_keeps s i
  rw [h]; rfl

/-- The severed port's living points are orphaned with no update open and no refresh pending; its RETIRING ones never were (R138). -/
theorem Point.OrphanExact.severed {lost lost' : Prop} {pt : Point} {p : Port} (h : pt.OrphanExact lost)
    (hp : pt.owner = p → lost') (hq : pt.owner ≠ p → (lost' ↔ lost)) : (pt.severed p).OrphanExact lost' := by
  unfold Point.severed
  split
  · next ho => exact h.of_kept (.refl pt) (hq ho)
  · next ho =>
    rw [not_not] at ho
    split
    · next hr =>
      have hn : pt.orphaned = false := by
        by_contra hc
        exact (h.orphaned.mp (by simpa using hc)).1 hr
      constructor <;> simp [hr, hn]
    · next hr => exact ⟨by simp [hr, hp ho], fun _ => ⟨rfl, rfl⟩⟩

theorem OrphansExact.severPort {s : State} (hs : OrphansExact s) (p : Port) : OrphansExact (s.severPort p) := by
  set s1 := s.setRecord p { s.record p with standing := .severed, severPending := false, reportPending := false } with hs1
  have hpoints : OrphansExact (s1.severPoints p) := by
    rw [orphansExact_iff] at hs ⊢
    intro i qt hq
    rw [severPoints_point] at hq
    obtain ⟨pt, hp, rfl⟩ := Option.map_eq_some_iff.mp hq
    have howner : (pt.severed p).owner = pt.owner := by unfold Point.severed; split <;> (try split) <;> rfl
    rw [howner, lost_congr (severPoints_record s1 p pt.owner)]
    refine (hs i pt hp).severed (fun ho => .inl ?_) fun ho => setRecord_lost_ne s ho _
    rw [hs1, setRecord_record, if_pos ho.symm]
  unfold State.severPort
  refine OrphansExact.of_kept ?_ (offerStanding_orphansKept ..)
  refine OrphansExact.of_kept ?_ (foldl_orphansKept (routeOwner_orphansKept none) _ _)
  refine OrphansExact.of_kept ?_ (clearPort_orphansKept ..)
  exact hpoints.of_kept (flushQueue_orphansKept ..)

/-- Routing OWNER moves the reference counts alone. -/
theorem routeOwner_point (o : Option Port) (s : State) (i j : Slot) :
    ∃ n, (State.routeOwner o s i).point j = (s.point j).map fun pt => { pt with refs := pt.refs + n } := by
  unfold State.routeOwner
  split
  · exact ⟨0, Option.map_id'.symm⟩
  · next pt h =>
    obtain ⟨-, hi, hj⟩ := route_spec s i .owner (fun f => .owner i pt.key o f false) (fun _ => rfl) pt h
    by_cases hji : j = i
    · subst hji
      exact ⟨_, by rw [hi, h]; rfl⟩
    · exact ⟨0, by rw [hj j hji]; exact Option.map_id'.symm⟩

/-- A point after the slots `l` have been adopted, but for its count: it is no longer orphaned if its slot is among them (R144, step 2). -/
theorem adopts_point (p : Port) (l : List Slot) (s : State) (j : Slot) :
    ∃ n, (l.foldl (State.adopt p) s).point j =
      (s.point j).map fun pt => { pt with orphaned := pt.orphaned && decide (j ∉ l), refs := pt.refs + n } := by
  have hturn : ∀ s i, ∃ n, (State.adopt p s i).point j =
      (s.point j).map fun pt => { pt with orphaned := pt.orphaned && decide (j ≠ i), refs := pt.refs + n } := by
    intro s i
    unfold State.adopt
    split
    · next h =>
      refine ⟨0, ?_⟩
      by_cases hji : j = i
      · subst hji; rw [h]; rfl
      · simp [hji]
    · next pt h =>
      obtain ⟨n, hn⟩ := routeOwner_point (some p) (s.setPoint i (some { pt with orphaned := false })) i j
      refine ⟨n, ?_⟩
      rw [hn, setPoint_point]
      by_cases hji : j = i
      · subst hji; simp [h]
      · simp [hji, Ne.symm hji]
  induction l generalizing s with
  | nil => exact ⟨0, by simp⟩
  | cons i l ih =>
    obtain ⟨n, hn⟩ := hturn s i
    obtain ⟨m, hm⟩ := ih (State.adopt p s i)
    refine ⟨n + m, ?_⟩
    rw [List.foldl_cons, hm, hn, Option.map_map]
    refine congrArg (fun f => (s.point j).map f) (funext fun pt => ?_)
    simp [Bool.and_assoc, Nat.add_assoc]

/-- The restored port's orphaned points are adopted, every one, and no other port's (R144). -/
theorem OrphansExact.restorePort {s : State} (hs : OrphansExact s) (p : Port) : OrphansExact (s.restorePort p) := by
  set s1 := (s.setRecord p { s.record p with standing := .good, score := 0, reportPending := false }).setEngine p
    { s.engine p with restoreCount := 0 } with hs1
  have hrec : ∀ q, ((s1.orphanSlots p).foldl (State.adopt p) s1).record q = s1.record q := fun q =>
    foldl_keep (fun s => s.record q) (fun s i => by unfold State.adopt; split <;> simp) _ s1
  have hadopted : OrphansExact ((s1.orphanSlots p).foldl (State.adopt p) s1) := by
    rw [orphansExact_iff] at hs ⊢
    intro i qt hq
    obtain ⟨n, hn⟩ := adopts_point p (s1.orphanSlots p) s1 i
    rw [hn] at hq
    obtain ⟨pt, hp, rfl⟩ := Option.map_eq_some_iff.mp hq
    have hmem : i ∈ s1.orphanSlots p ↔ pt.owner = p ∧ pt.orphaned = true := by simp [mem_orphanSlots, hp]
    rw [lost_congr (hrec _)]
    by_cases ho : pt.owner = p
    · refine .of_not_lost ?_ ?_
      · cases hor : pt.orphaned <;> simp [hmem, ho, hor]
      · simp [State.lost, hs1, ho]
    · refine (hs i pt hp).of_kept ⟨rfl, ?_, .rfl, fun _ => id⟩ (setRecord_lost_ne s ho _)
      simp [hmem, ho]
  exact hadopted.of_kept (offerStanding_orphansKept ..)

end Sys2Proof.Machine
end

section
/-! SUPPORT. Every command keeps the points as orphaned as R121 has them: the requests' operations, the timer and standing units' operations, and
the events that move no point. -/

namespace Sys2Proof.Machine

open Host (Outcome)

/-! ## Outcomes -/

theorem ofScore_not_lost (n : Nat) : Standing.ofScore n ≠ .severed ∧ Standing.ofScore n ≠ .restoring := by
  unfold Standing.ofScore
  split
  · exact ⟨nofun, nofun⟩
  · split <;> exact ⟨nofun, nofun⟩

/-- An outcome moves no port into or out of SEVERED and RESTORING (R130, R132). -/
theorem after_lost_iff (isSup : Bool) (st : Status) (r : StandingRec) :
    ((r.after isSup st).standing = .severed ∨ (r.after isSup st).standing = .restoring) ↔
      (r.standing = .severed ∨ r.standing = .restoring) := by
  fun_cases StandingRec.after isSup st r with
  | case1 h => rfl
  | case2 h n hn => rfl
  | case3 h n hn =>
    simp only [Bool.or_eq_true, beq_iff_eq, not_or] at h
    obtain ⟨⟨-, hsev⟩, hres⟩ := h
    simp [ofScore_not_lost, hsev, hres]

theorem settleOutcome_orphansKept (s : State) (p : Port) (st : Status) : OrphansKept s (s.settleOutcome p st) := by
  obtain ⟨-, hrec, hothers, -, -⟩ := settleOutcome_spec s p st
  obtain ⟨hd, -⟩ := settleOutcome_keeps s p st
  refine .of_lost (fun i => by unfold State.point; rw [hd]) fun q => ?_
  by_cases hqp : q = p
  · subst hqp
    unfold State.lost
    rw [hrec]
    exact after_lost_iff ..
  · exact lost_congr (hothers q hqp).2

theorem setOpenUpdates_orphansKept (s : State) (p : Port) (n : Nat) : OrphansKept s (s.setOpenUpdates p n) :=
  .of_same (fun _ => rfl) fun _ => rfl

/-- A record written with a standing that R121 does not tell from the earlier one. -/
theorem setRecord_orphansKept {s : State} {p : Port} {r : StandingRec}
    (h : (r.standing = .severed ∨ r.standing = .restoring) ↔ s.lost p) : OrphansKept s (s.setRecord p r) := by
  refine .of_lost (fun _ => rfl) fun q => ?_
  by_cases hqp : q = p
  · subst hqp
    unfold State.lost
    rw [setRecord_record, if_pos rfl]
    exact h
  · exact setRecord_lost_ne s hqp r

theorem setEngine_orphansKept (s : State) (p : Port) (e : Engine) : OrphansKept s (s.setEngine p e) :=
  .of_same (fun _ => rfl) fun _ => rfl

theorem handBack_orphansKept (s : State) (p : Port) (tag : Byte) (c : Command) (r : Reply) : OrphansKept s (s.handBack p tag c r) := by
  unfold State.handBack
  refine .trans ?_ (settleOutcome_orphansKept ..)
  dsimp only [State.send]
  split
  · rw [extendRun_eq]
    exact ((setEngine_orphansKept ..).trans (setEngine_orphansKept ..)).trans (setEngine_orphansKept ..)
  · rw [breakRun_eq]
    exact ((setEngine_orphansKept ..).trans (setEngine_orphansKept ..)).trans (setEngine_orphansKept ..)

theorem answerFrame_orphansKept (s : State) (p : Port) (frame : List Byte) (a : Answer) (st : Status) :
    OrphansKept s (s.answerFrame p frame a st) := by
  unfold State.answerFrame
  rw [breakRun_eq]
  exact (((setEngine_orphansKept ..).trans (setEngine_orphansKept ..)).trans (setEngine_orphansKept ..)).trans
    (settleOutcome_orphansKept ..)

theorem presentHeld_orphansKept (s : State) : OrphansKept s s.presentHeld :=
  .of_same (fun i => by unfold State.point; rw [presentHeld_dir]) (presentHeld_record s)

/-! ## The requests' operations -/

section
variable {s : State} (hs : OrphansExact s)
include hs

/-- The owner that OPENs an update is in good standing, so the point is not orphaned (R34, R133). -/
theorem OrphansExact.openOp {p : Port} (hp : (s.record p).standing ≠ .severed) (i : Slot) : OrphansExact (openOp p i s).1 := by
  fun_cases Machine.openOp p i s with
  | case7 hl pt h ho hst hu hn =>
    obtain rfl : pt.owner = p := by simpa using ho
    simp only [State.limited, Bool.or_eq_true, beq_iff_eq, not_or] at hl
    have hn := (orphansExact_iff.mp hs i pt h).not_orphaned (not_or.mpr ⟨hp, hl.2⟩)
    have hk : pt.OrphanKept { pt with pendingBuf := pt.committed, updateOpen := true } :=
      ⟨rfl, rfl, .rfl, fun ho => by simp [hn] at ho⟩
    exact hs.of_kept (((setPoint_orphansKept h hk).trans (setOpenUpdates_orphansKept ..)).trans (arm_orphansKept ..))
  | _ => exact hs

theorem OrphansExact.writeOp (p : Port) (i : Slot) (offset : Byte) (data : List Byte) : OrphansExact (writeOp p i offset data s).1 := by
  fun_cases Machine.writeOp p i offset data s with
  | case7 hl pt h ho hst hu hw => exact hs.of_kept (setPoint_orphansKept h ⟨rfl, rfl, .rfl, fun _ => id⟩)
  | _ => exact hs

theorem OrphansExact.commitOp (p : Port) (i : Slot) : OrphansExact (commitOp p i s).1 := by
  fun_cases Machine.commitOp p i s with
  | case6 hl pt h ho hst hu =>
    have hclosed : (s.closeUpdate i).point i = some { pt with updateOpen := false } := by simp [h]
    exact hs.of_kept ((closeUpdate_orphansKept s i).trans (publish_orphansKept hclosed hst))
  | _ => exact hs

theorem OrphansExact.discardOp (p : Port) (i : Slot) : OrphansExact (discardOp p i s).1 := by
  fun_cases Machine.discardOp p i s with
  | case5 pt h ho hst hu => exact hs.of_kept (closeUpdate_orphansKept s i)
  | _ => exact hs

theorem OrphansExact.putOp (p : Port) (i : Slot) (offset : Byte) (data : List Byte) : OrphansExact (putOp p i offset data s).1 := by
  fun_cases Machine.putOp p i offset data s with
  | case7 hl pt h ho hst hu hw =>
    have hk : pt.OrphanKept { pt with pendingBuf := splice pt.committed offset.toNat data } := ⟨rfl, rfl, .rfl, fun _ => id⟩
    have hfilled := (setPoint_point s i i (some { pt with pendingBuf := splice pt.committed offset.toNat data })).trans (if_pos rfl)
    exact hs.of_kept ((setPoint_orphansKept h hk).trans (publish_orphansKept hfilled hst))
  | _ => exact hs

/-- A REFRESH that is carried out finds the point not orphaned (R48). -/
theorem OrphansExact.refreshOp (p : Port) (i : Slot) : OrphansExact (refreshOp p i s).1 := by
  fun_cases Machine.refreshOp p i s with
  | case7 hl pt h hr hst ho hp =>
    have hk : pt.OrphanKept { pt with refreshPending := true } := ⟨rfl, rfl, .rfl, fun hc => absurd hc ho⟩
    exact hs.of_kept ((setPoint_orphansKept h hk).trans (offer_orphansKept ..))
  | _ => exact hs

theorem OrphansExact.watchOp (p : Port) (filter : Byte) (key mask : Key) (kinds : KindSet) :
    OrphansExact (watchOp p filter key mask kinds s).1 := by
  fun_cases Machine.watchOp p filter key mask kinds s with
  | case3 hl f hf => exact hs.of_kept (.of_same (fun _ => rfl) fun _ => rfl)
  | _ => exact hs

theorem OrphansExact.unwatchOp (p : Port) (filter : Byte) : OrphansExact (unwatchOp p filter s).1 := by
  fun_cases Machine.unwatchOp p filter s with
  | case1 hf => exact hs
  | case2 f hf => exact hs.of_kept (.of_same (fun _ => rfl) fun _ => rfl)

theorem OrphansExact.takeOp (p : Port) (count : Byte) : OrphansExact (takeOp p count s).1 := by
  fun_cases Machine.takeOp p count s with
  | case1 hc => exact hs
  | case2 hc gone left => exact hs.of_kept ((setQueue_orphansKept ..).trans (releaseRefs_orphansKept ..))

/-- A RESTORE moves its target from SEVERED to RESTORING: its points stay orphaned (R142). -/
theorem OrphansExact.restoreOp (p : Port) (target : Byte) : OrphansExact (restoreOp p target s).1 := by
  fun_cases Machine.restoreOp p target s with
  | case4 hp q hq hsev =>
    have hrec : OrphansKept s (s.setRecord q { s.record q with standing := .restoring }) :=
      setRecord_orphansKept (iff_of_true (.inr rfl) (.inl (not_not.mp hsev)))
    exact hs.of_kept ((hrec.trans (setEngine_orphansKept ..)).trans (offerStanding_orphansKept ..))
  | _ => exact hs

theorem OrphansExact.flushOp (p : Port) (target : Byte) : OrphansExact (flushOp p target s).1 := by
  fun_cases Machine.flushOp p target s with
  | case3 hp q hq t => exact hs.of_kept (flushQueue_orphansKept s q)
  | _ => exact hs

theorem OrphansExact.timingOp (p : Port) (tickdiv : Byte) (holdlim : BitVec 16) : OrphansExact (timingOp p tickdiv holdlim s).1 := by
  fun_cases Machine.timingOp p tickdiv holdlim s with
  | case3 hp hh => exact hs.of_kept (.of_same (fun _ => rfl) fun _ => rfl)
  | _ => exact hs

/-- A port that is not SEVERED keeps the orphans with every request. -/
theorem OrphansExact.requestOp {p : Port} (hp : (s.record p).standing ≠ .severed) (r : Request) : OrphansExact (requestOp p r s).1 := by
  cases r with
  | nop => exact hs
  | status => exact hs
  | attend on => exact hs.of_kept (setEngine_orphansKept ..)
  | resend tag => exact hs
  | create key width readers fresh => exact hs.createOp hp key width readers fresh
  | find target => rw [Machine.requestOp, findOp_state]; exact hs
  | read i offset length => rw [Machine.requestOp, readOp_state]; exact hs
  | scan key mask after count => rw [Machine.requestOp, scanOp_state]; exact hs
  | openUpdate i => exact hs.openOp hp i
  | write i offset data => exact hs.writeOp p i offset data
  | commit i => exact hs.commitOp p i
  | discard i => exact hs.discardOp p i
  | put i offset data => exact hs.putOp p i offset data
  | refresh i => exact hs.refreshOp p i
  | retire i => exact hs.retireOp p i
  | watch filter key mask kinds => exact hs.watchOp p filter key mask kinds
  | unwatch filter => exact hs.unwatchOp p filter
  | take count => exact hs.takeOp p count
  | restore target => exact hs.restoreOp p target
  | flush target => exact hs.flushOp p target
  | reassign i target => exact hs.reassignOp p i target
  | timing tickdiv holdlim => exact hs.timingOp p tickdiv holdlim

/-! ## The timer and standing units' operations -/

/-- A FRESH expiry makes a LIVE point STALE, a HOLD expiry closes an update: neither makes a point RETIRING (R101, R102). -/
theorem OrphansExact.expire (i : Slot) (k : DeadlineKind) : OrphansExact (s.expire i k) := by
  cases k with
  | fresh =>
    show OrphansExact (s.expireFresh i)
    fun_cases State.expireFresh s i with
    | case1 s1 h => exact hs.of_kept (disarm_orphansKept s i .fresh)
    | case2 s1 pt h hst =>
      have hk : pt.OrphanKept { pt with state := .stale } := ⟨rfl, rfl, by simp [hst], fun _ => id⟩
      exact hs.of_kept (((disarm_orphansKept s i .fresh).trans (setPoint_orphansKept h hk)).trans (routeStale_orphansKept ..))
    | case3 s1 pt h hst => exact hs.of_kept (disarm_orphansKept s i .fresh)
  | hold => exact hs.of_kept ((disarm_orphansKept s i .hold).trans (expireUpdate_orphansKept _ i))

theorem OrphansExact.reportStanding (p : Port) : OrphansExact (s.reportStanding p) := by
  have hrec : OrphansKept s (s.setRecord p { s.record p with reportPending := false }) := setRecord_orphansKept .rfl
  exact hs.of_kept (hrec.trans (offerStanding_orphansKept ..))

theorem OrphansExact.standingOp (r : StandingRequest) : OrphansExact (r.op s) := by
  cases r with
  | sever p => exact hs.severPort p
  | restored p => exact hs.restorePort p
  | change p => exact hs.reportStanding p

/-! ## Every command -/

/-- A meaning that keeps the orphans under its condition, and otherwise changes nothing. -/
theorem OrphansExact.of_ite {t u : State} {cond : Prop} [Decidable cond]
    (h : (if cond then Outcome.next u else .next s : Outcome State Fault Refusal) = .next t) (hu : OrphansExact u) :
    OrphansExact t := by
  split at h <;> cases h
  · exact hu
  · exact hs

theorem OrphansExact.of_idle {t : State} (h : (.next s : Outcome State Fault Refusal) = .next t) : OrphansExact t := by
  cases h
  exact hs

/-- The port whose request is granted is not SEVERED (R141). -/
theorem OrphansExact.grantPort (hl : LinkSound s) {t : State} {p : Port} {r : Request}
    (h : s.grantPort p r (Machine.requestOp p r) = .next t) : OrphansExact t := by
  by_cases ht : ∃ tag, Taken s p tag r
  · obtain ⟨tag, ht⟩ := ht
    obtain ⟨-, hrequest, -, -⟩ := hl
    obtain ⟨-, hsev⟩ := hrequest p (by rw [ht.1]; rfl)
    rw [grantPort_of_taken _ ht] at h
    cases h
    have hgranted : OrphansExact (s.setGrant (.port p)) := hs.of_kept (.of_same (fun _ => rfl) fun _ => rfl)
    exact (hgranted.requestOp hsev r).of_kept (handBack_orphansKept ..)
  · rw [grantPort_of_not_taken _ (not_exists.mp ht)] at h
    exact hs.of_idle h

theorem OrphansExact.grantTimer {t : State} {i : Slot} {k : DeadlineKind} (h : s.grantTimer i k (fun s => s.expire i k) = .next t) :
    OrphansExact t := by
  by_cases hg : s.timer.request = some (i, k) ∧ s.nextGrant = some .timer
  · rw [grantTimer_granted _ hg.1 hg.2] at h
    cases h
    have hgranted : OrphansExact s.timerTaken := hs.of_kept (.of_same (fun _ => rfl) fun _ => rfl)
    split
    · exact hgranted.expire i k
    · exact hgranted
  · rw [grantTimer_of_not_granted _ hg] at h
    exact hs.of_idle h

theorem OrphansExact.grantStanding {t : State} {r : StandingRequest} (h : s.grantStanding r r.port r.op = .next t) :
    OrphansExact t := by
  by_cases hg : s.standing.request = some r ∧ s.nextGrant = some .standing
  · rw [grantStanding_granted _ hg.1 hg.2] at h
    cases h
    have hgranted : OrphansExact (((s.setStandingRequest none).setLastPort r.port).setGrant .standing) :=
      hs.of_kept (.of_same (fun _ => rfl) fun _ => rfl)
    exact (hgranted.standingOp r).of_kept (presentHeld_orphansKept _)
  · rw [grantStanding_of_not_granted _ hg] at h
    exact hs.of_idle h

/-! ### Events of the port engines, the timer unit and the supply watch -/

/-- A frame that the engine answers itself under its condition, for whatever verdict on its bytes. -/
theorem OrphansExact.answered {t : State} {cond : Prop} [Decidable cond] {p : Port} {frame : List Byte} {a : Answer} {st : Status}
    (h : (if cond then Outcome.next (s.answerFrame p frame a st) else .next s : Outcome State Fault Refusal) = .next t) :
    OrphansExact t := hs.of_ite h (hs.of_kept (answerFrame_orphansKept ..))

theorem OrphansExact.badFrame {t : State} {p : Port} {frame : List Byte} (h : execBadFrame p frame s = .next t) : OrphansExact t := by
  unfold execBadFrame at h
  split at h
  · exact hs.answered h
  · exact hs.of_idle h

theorem OrphansExact.checkFail {t : State} {p : Port} {frame : List Byte} (h : execCheckFail p frame s = .next t) :
    OrphansExact t := by
  unfold execCheckFail at h
  split at h
  · exact hs.answered h
  · exact hs.of_idle h

theorem OrphansExact.held {t : State} {p : Port} {frame : List Byte} (h : execHeld p frame s = .next t) : OrphansExact t := by
  unfold execHeld at h
  split at h
  · exact hs.answered h
  · exact hs.of_idle h

theorem OrphansExact.resend {t : State} {p : Port} {frame : List Byte} (h : execResend p frame s = .next t) : OrphansExact t := by
  unfold execResend at h
  split at h
  · exact hs.answered h
  · exact hs.of_idle h

theorem OrphansExact.requestPresented {t : State} {p : Port} {frame : List Byte} (h : execRequestPresented p frame s = .next t) :
    OrphansExact t := by
  unfold execRequestPresented at h
  split at h
  · exact hs.of_ite h (hs.of_kept ((setEngine_orphansKept ..).trans (setEngine_orphansKept ..)))
  · exact hs.of_idle h

theorem OrphansExact.selectPeriodStart {t : State} {p : Port} (h : execSelectPeriodStart p s = .next t) : OrphansExact t := by
  unfold execSelectPeriodStart at h
  dsimp only at h
  split at h
  · split at h <;> cases h <;> exact hs.of_kept (setEngine_orphansKept ..)
  · exact hs.of_idle h

theorem OrphansExact.selectPeriodEnd {t : State} {p : Port} (h : execSelectPeriodEnd p s = .next t) : OrphansExact t := by
  unfold execSelectPeriodEnd at h
  dsimp only at h
  split at h
  · exact hs.of_idle h
  · cases h; exact hs.of_kept (setEngine_orphansKept ..)

theorem OrphansExact.setTimer (x : Timer) : OrphansExact (s.setTimer x) := hs.of_kept (.of_same (fun _ => rfl) fun _ => rfl)

theorem OrphansExact.setSupply (x : SupplyWatch) : OrphansExact (s.setSupply x) := hs.of_kept (.of_same (fun _ => rfl) fun _ => rfl)

theorem OrphansExact.expiryRequest {t : State} (h : execExpiryRequest s = .next t) : OrphansExact t := by
  unfold execExpiryRequest at h
  split at h
  · exact hs.of_ite h (hs.setTimer _)
  · exact hs.of_idle h

/-- A freeze withdraws requests, and moves engines alone (R169). -/
theorem OrphansExact.droopFreeze {t : State} (h : execDroopFreeze s = .next t) : OrphansExact t := by
  unfold execDroopFreeze at h
  have hwithdrawn : ∀ s, OrphansKept s (allPorts.foldl State.withdraw s) := fun s =>
    .of_same (fun i => withdraws_keep (fun s => s.point i) (fun _ _ _ => rfl) s)
      fun q => withdraws_keep (fun s => s.record q) (fun _ _ _ => rfl) s
  exact hs.of_ite h ((hs.setSupply _).of_kept ((hwithdrawn _).trans (presentHeld_orphansKept _)))

theorem OrphansExact.clockPeriod : OrphansExact s.clockPeriod := by
  fun_cases State.clockPeriod s with
  | case1 => exact hs.setTimer _
  | case2 => exact hs.setTimer _
  | case3 => exact hs.setSupply _
  | case4 => exact hs.setSupply _
  | case5 => exact hs
  | case6 => exact hs

end

/-- A part with no points has no orphans. -/
theorem orphansExact_of_reset {t : State} (h : t.dir = Directory.reset) : OrphansExact t := by
  intro i pt hp
  rw [State.point, h] at hp
  exact absurd hp (by simp [Directory.reset, Vector.get])

theorem OrphansExact.exec {c : Instr} {s t : State} (hs : OrphansExact s) (hl : LinkSound s) (h : exec c s = .next t) :
    OrphansExact t := by
  cases c with
  | nop | status | attend | create | find | read | scan | openUpdate | write | commit | discard | put | refresh | retire | watch
  | unwatch | take | restore | flush | reassign | timing => exact hs.grantPort hl h
  | tick => exact hs.of_ite h (hs.setTimer _)
  | expiryRequest => exact hs.expiryRequest h
  | freshExpiry i => exact hs.grantTimer (k := .fresh) h
  | holdExpiry i => exact hs.grantTimer (k := .hold) h
  | sever p => exact hs.grantStanding (r := .sever p) h
  | restorationComplete p => exact hs.grantStanding (r := .restored p) h
  | standingChange p => exact hs.grantStanding (r := .change p) h
  | resend p frame => exact hs.resend h
  | badFrame p frame => exact hs.badFrame h
  | checkFail p frame => exact hs.checkFail h
  | held p frame => exact hs.held h
  | requestPresented p frame => exact hs.requestPresented h
  | selectPeriodStart p => exact hs.selectPeriodStart h
  | selectPeriodEnd p => exact hs.selectPeriodEnd h
  | powerOnReset => cases h; exact orphansExact_of_reset rfl
  | pinReset => cases h; exact orphansExact_of_reset rfl
  | supplyReset => exact hs.of_ite h (orphansExact_of_reset rfl)
  | resetRelease sup swm => exact hs.of_ite h (hs.setSupply _)
  | settleEnd => exact hs.of_ite h (hs.setSupply _)
  | droopFreeze => exact hs.droopFreeze h
  | droopRecovery => exact hs.of_ite h (hs.setSupply _)

/-- Settles O59: a clock period moves no point and no standing, and each command keeps R121 (`OrphansExact.exec`). That a SEVERED port has no
request presented is the one premise it takes of `LinkSound`; it takes none of `StandingSound`. -/
theorem orphansAlwaysExact : Obligations.OrphansAlwaysExact := by
  intro s t _ hl hs h
  unfold step at h
  split at h
  · cases h
    exact hs.clockPeriod
  · next c rest _ =>
    have hs' : OrphansExact { s with pending := rest } := hs
    have hl' : LinkSound { s with pending := rest } := hl
    exact hs'.exec hl' h

end Sys2Proof.Machine
end

section
/-! SUPPORT. Retirement, ownership and slot reuse where the commands pass their refusals: FLUSH and RETIRE. -/

namespace Sys2Proof.Machine

/-! ## FLUSH -/

/-- A target byte that is a port's code names the port (R177). -/
theorem portOf_portByte (q : Port) : portOf (portByte q) = some q := by revert q; decide

/-- The refusals of R118, all denied: a FLUSH of this port's queue is carried out. -/
theorem flush_passes_iff {s : State} {p target : Port} :
    firstRefusal (s.refusals p (.flush (portByte target))) = .ok ↔ p = s.supervisor := by
  have hrange : ¬3 < (portByte target).toNat := by rw [← portOf_eq_none, portOf_portByte]; exact nofun
  refine (firstRefusal_cons_eq_ok_iff (by decide)).trans ?_
  rw [firstRefusal_cons_eq_ok_iff (by decide)]
  simp [hrange]

/-- The slots that became FREE are those that are FREE now and were not, when no slot was filled. -/
theorem freeSlots_eq_add_freedIn {s t : State} (h : ∀ i, s.point i = none → t.point i = none) :
    t.freeSlots = s.freeSlots + s.freedIn t := by
  unfold State.freeSlots State.freedIn
  induction allSlots with
  | nil => rfl
  | cons i l ih =>
    simp only [List.countP_cons, ih]
    cases hs : s.point i with
    | none => simp [h i hs]; omega
    | some pt => cases t.point i <;> simp; omega

/-- What a flush leaves does not free a slot that was FREE before. -/
theorem flushQueue_freed (s : State) (q : Port) : (s.flushQueue q).freeSlots - s.freeSlots = s.freedIn (s.flushQueue q) := by
  rw [freeSlots_eq_add_freedIn fun i hi => ?_, Nat.add_sub_cancel_left]
  rw [flushQueue_point, hi]
  rfl

/-- Settles O35: the queue is emptied, and what its entries name is released as `releaseRefs_point` and `releaseRefs_index` say. -/
theorem flushTaken : Obligations.FlushTaken := by
  intro s p target tag hp
  obtain ⟨ht, hr⟩ := hp
  obtain rfl := flush_passes_iff.mp hr
  set b := s.setGrant (.port s.supervisor) with hb
  have hop : flushOp s.supervisor (portByte target) b =
      (b.flushQueue target, .ok [BitVec.ofNat 8 (s.queue target).length, BitVec.ofNat 8 (s.freedIn (b.flushQueue target))]) := by
    have hfreed : s.freedIn (b.flushQueue target) = (b.flushQueue target).freeSlots - b.freeSlots := (flushQueue_freed b target).symm
    unfold flushOp
    rw [if_neg (not_not.mpr rfl : ¬s.supervisor ≠ b.supervisor), portOf_portByte, hfreed]
    rfl
  obtain ⟨t, he, ha, hd⟩ := passed_answered ht rfl hop (by simp [hb]) (by simp [hb]) (by simp [hb]) (by simp [hb]) (by simp [hb])
  have hfreed : s.freedIn t = s.freedIn (b.flushQueue target) := by simp only [State.freedIn, hd.point]
  refine ⟨t, he, by rw [hfreed]; exact ha, hd.queuesAre fun q => ?_, hd.filtersKept fun q => ?_,
    fun i => (hd.point i).trans (flushQueue_point b target i), fun e => ?_, ?_, hd.countsKept fun q => ?_, ?_⟩
  · simp [hb, eq_comm]
  · simp [hb]
  · rw [hd.1, hd.point]
    exact releaseRefs_index (b.setQueue target []) (s.queue target) e
  · simp [hd.1, hb]
  · simp [hb]
  · simp [hd.2.2, hb]

/-! ## RETIRE -/

/-- The refusals of R110, all denied: a RETIRE of this point is carried out. -/
theorem retire_passes_iff {s : State} {p : Port} {i : Slot} {pt : Point} (h : s.point i = some pt) :
    firstRefusal (s.refusals p (.retire i)) = .ok ↔
      s.limited p = false ∧ (pt.owner = p ∨ p = s.supervisor) ∧ pt.state ≠ .retiring := by
  refine (firstRefusal_cons_eq_ok_iff (by decide)).trans ?_
  simp [firstRefusal_cons_eq_ok_iff, holds_of_some h, stands_limited, h, or_iff_not_imp_left]

/-- A RETIRE that passes its refusals closes the update, then retires the slot, and answers what it left (R111, R113). -/
theorem retireOp_passed {s : State} {p : Port} {i : Slot} {pt : Point} (h : s.point i = some pt) (hl : s.limited p = false)
    (ho : pt.owner = p ∨ p = s.supervisor) (hst : pt.state ≠ .retiring) :
    retireOp p i s = ((s.closeUpdate i).retireSlot i, .ok (retireBody ((s.closeUpdate i).retireSlot i) i)) := by
  unfold retireOp
  rw [if_neg (by simp [hl]), h]
  dsimp only
  rw [if_neg (fun hn => ho.elim hn.1 hn.2), if_neg hst]
  rfl

/-- The RETIRED notice, by filter `f`, of the point's retirement (R111, R112). -/
def Point.retiredNotice (pt : Point) (i : Slot) (f : FilterNo) : Notice := .retired i pt.key pt.version f false

/-- What step 8 of R111 keeps: whatever the freeing of the slot keeps. -/
theorem freeIfUnnamed_keep {β : Type} (g : State → β) (s : State) (i : Slot) (h : g (s.freeSlot i) = g s) :
    g (s.freeIfUnnamed i) = g s := by
  unfold State.freeIfUnnamed
  split
  · rfl
  · split
    · exact h
    · rfl

/-- Steps 2 to 8 of R111 are the removal of the value and FRESH deadline, the routing of RETIRED, and the freeing of a slot not named. -/
theorem retireSlot_eq {s : State} {i : Slot} {pt : Point} (h : s.point i = some pt) :
    s.retireSlot i = ((s.retirePoint i).route i .retired (pt.retiredNotice i)).freeIfUnnamed i := by
  have hp : (s.retirePoint i).point i = some pt.retired := by rw [retirePoint_eq h]; simp
  unfold State.retireSlot State.routeRetired
  rw [hp]
  rfl

/-- A slot as RETIRE leaves it, with `n` queued notices naming it (R111, R115): FREE if there is none. -/
structure Retired (s t : State) (i : Slot) (pt : Point) (n : Nat) : Prop where
  point : t.point i = if n = 0 then none else some { pt.retired with refs := n }
  others : OtherSlotsKept s t i
  index : t.dir.index = if n = 0 then indexRemove i s.dir.index else s.dir.index
  queues : QueuesAre t fun q => (s.delivery pt .retired (pt.retiredNotice i) q).1
  deadlines : DeadlinesAre s t (s.timer.deadlines.filter fun d => !d.names i .fresh)

theorem retireSlot_retired {s : State} {i : Slot} {pt : Point} (h : s.point i = some pt) {n : Nat}
    (hn : n = pt.refs + s.deliveries pt .retired (pt.retiredNotice i)) : Retired s (s.retireSlot i) i pt n := by
  have hp : (s.retirePoint i).point i = some pt.retired := by rw [retirePoint_eq h]; simp
  have hdel : (s.retirePoint i).delivery pt.retired .retired (pt.retiredNotice i) = s.delivery pt .retired (pt.retiredNotice i) := by
    rw [retirePoint_eq h]
    exact delivery_of_same rfl rfl rfl rfl rfl _ _
  obtain ⟨hqueue, hpoint, -⟩ := route_spec (s.retirePoint i) i .retired (pt.retiredNotice i) (fun _ => rfl) pt.retired hp
  rw [deliveries_of_same hdel] at hpoint
  replace hpoint : ((s.retirePoint i).route i .retired (pt.retiredNotice i)).point i = some { pt.retired with refs := n } :=
    hn ▸ hpoint
  have hslot : (s.retireSlot i).point i = if n = 0 then none else some { pt.retired with refs := n } := by
    rw [retireSlot_eq h, freeIfUnnamed_point, if_pos rfl, hpoint]
    by_cases h0 : n = 0 <;> simp [Option.filter, h0]
  obtain ⟨-, hothers⟩ := retireSlot_point h
  refine ⟨hslot, hothers, ?_, fun q => ?_, ?_⟩
  · rw [retireSlot_index h, hslot]
    by_cases h0 : n = 0 <;> simp [h0]
  · rw [retireSlot_eq h, freeIfUnnamed_queue, hqueue, hdel]
  · unfold DeadlinesAre
    rw [retireSlot_eq h, freeIfUnnamed_timer, route_timer, retirePoint_eq h, disarm_timer]
    rfl

/-- RETIRE moves no filter, engine, standing or supply state, and no grant. -/
theorem retireSlot_keeps {s : State} {i : Slot} {pt : Point} (h : s.point i = some pt) :
    (∀ q, (s.retireSlot i).filters q = s.filters q) ∧ (∀ q, (s.retireSlot i).engine q = s.engine q) ∧
    (s.retireSlot i).standing = s.standing ∧ (s.retireSlot i).supply = s.supply ∧ (s.retireSlot i).pending = s.pending ∧
    (s.retireSlot i).lastGrant = s.lastGrant := by
  rw [retireSlot_eq h, retirePoint_eq h]
  refine ⟨fun q => ?_, fun q => ?_, ?_, ?_, ?_, ?_⟩
  · exact (freeIfUnnamed_keep (fun s => s.filters q) _ i (by simp)).trans (by simp)
  · exact (freeIfUnnamed_keep (fun s => s.engine q) _ i (by simp)).trans (by simp)
  · exact (freeIfUnnamed_keep (fun s => s.standing) _ i (by simp)).trans (by simp)
  · exact (freeIfUnnamed_keep (fun s => s.supply) _ i (by simp)).trans (by simp)
  · exact (freeIfUnnamed_keep (fun s => s.pending) _ i (by simp)).trans (by simp)
  · exact (freeIfUnnamed_keep (fun s => s.lastGrant) _ i (by simp)).trans (by simp)

/-- Where every point with an update open has a HOLD entry and no other has (R95), closing removes the slot's HOLD entry if there is one. -/
theorem DeadlinesExact.closeUpdate_deadlines {s : State} (h : DeadlinesExact s) (i : Slot) :
    DeadlinesAre s (s.closeUpdate i) (s.timer.deadlines.filter fun d => !d.names i .hold) := by
  obtain ⟨-, -, hhold, -⟩ := h
  by_cases harmed : s.armed i .hold
  · obtain ⟨pt, hp, hu⟩ := (hhold i).mp harmed
    exact (closeUpdate_of_open hp hu).2.2.2
  · have hnone : s.timer.deadlines.filter (fun d => !d.names i .hold) = s.timer.deadlines := by
      rw [List.filter_eq_self]
      intro d hd
      rw [Bool.not_eq_true', ← Bool.not_eq_true, names_eq_true_iff]
      exact fun hn => harmed ⟨d, hd, hn⟩
    unfold DeadlinesAre
    rw [hnone, closeUpdate_timer]
    split
    · rfl
    · next pt hp =>
      rw [if_neg fun hu => harmed ((hhold i).mpr ⟨pt, hp, hu⟩)]

/-- The open-update counts after a close (R33). -/
theorem closeUpdate_counts {s : State} {i : Slot} {pt : Point} (h : s.point i = some pt) :
    if pt.updateOpen then CountIs s (s.closeUpdate i) pt.owner (s.openUpdates pt.owner - 1)
    else CountsKept s (s.closeUpdate i) := by
  split
  · next hu => exact (closeUpdate_of_open h hu).2.2.1
  · next hu => exact fun q => by simp [closeUpdate_openUpdates, h, hu]

/-- What the counts are is read off a state with the same counts. -/
theorem counts_congr {s t u : State} {b : Bool} {p : Port} {n : Nat} (h : ∀ q, t.openUpdates q = u.openUpdates q)
    (hu : if b then CountIs s u p n else CountsKept s u) : if b then CountIs s t p n else CountsKept s t := by
  cases b with
  | true => exact ⟨(h p).trans hu.1, fun q hq => (h q).trans (hu.2 q hq)⟩
  | false => exact fun q => (h q).trans (hu q)

/-- Settles O33: the update is closed (`closeUpdate_counts`), then the point is retired (`retireSlot_retired`). -/
theorem retireTaken : Obligations.RetireTaken := by
  intro s p tag i pt n mk hexact hp hpt hmk hn
  obtain ⟨ht, hr⟩ := hp
  obtain ⟨hl, ho, hst⟩ := (retire_passes_iff hpt).mp hr
  obtain rfl : mk = pt.retiredNotice i := funext hmk
  set c := (s.setGrant (.port p)).closeUpdate i with hc
  have hclosed : c.point i = some { pt with updateOpen := false } := by simp [hc, hpt]
  have hdel : c.delivery { pt with updateOpen := false } .retired (pt.retiredNotice i) = s.delivery pt .retired (pt.retiredNotice i) :=
    delivery_of_same (by simp [hc]) (by simp [hc]) rfl rfl rfl _ _
  have hretired := retireSlot_retired hclosed (n := n) (by rw [hn]; exact congrArg (pt.refs + ·) (deliveries_of_same hdel).symm)
  obtain ⟨hfilters, hengine, hstanding, hsupply, hpending, hgrant⟩ := retireSlot_keeps hclosed
  have hop : retireOp p i (s.setGrant (.port p)) =
      (c.retireSlot i, .ok (if n = 0 then [0x00, 0x00] else [0x04, BitVec.ofNat 8 n])) := by
    have hbody : retireBody (c.retireSlot i) i = if n = 0 then [0x00, 0x00] else [0x04, BitVec.ofNat 8 n] := by
      unfold retireBody
      rw [hretired.point]
      by_cases h0 : n = 0
      · rw [if_pos h0, if_pos h0]
      · rw [if_neg h0, if_neg h0]; rfl
    rw [← hbody]
    exact retireOp_passed (s := s.setGrant (.port p)) hpt hl ho hst
  obtain ⟨t, he, ha, hd⟩ := passed_answered ht rfl hop (fun q => (hengine q).trans (by simp [hc])) (hstanding.trans (by simp [hc]))
    (hsupply.trans (by simp [hc])) (hpending.trans (by simp [hc])) (hgrant.trans (by simp [hc]))
  refine ⟨t, he, ha, (hd.point i).trans hretired.point, hd.otherSlotsKept ?_, ?_, ?_, ?_, hd.filtersKept fun q => ?_,
    hd.queuesAre fun q => ?_, hd.deadlinesAre ?_⟩
  · exact OtherSlotsKept.trans (fun j hj => by simp [hc, Ne.symm hj]) hretired.others
  · rw [hd.1, retireSlot_freeGranules hclosed, hc, closeUpdate_freeGranules]
    simp [Point.granules, granulesFor, Config.granuleBytes, hst]
  · rw [hd.1, hretired.index, hc, closeUpdate_index]
    rfl
  · exact counts_congr (fun q => (hd.openUpdates q).trans (retireSlot_openUpdates hclosed q))
      (closeUpdate_counts (s := s.setGrant (.port p)) hpt)
  · rw [hfilters, hc, closeUpdate_filters]
    rfl
  · exact (hretired.queues q).trans (congrArg Prod.fst (congrFun hdel q))
  · have hlist := DeadlinesExact.closeUpdate_deadlines (s := s.setGrant (.port p)) hexact i
    have hrest := hretired.deadlines
    rw [show c.timer.deadlines = _ from congrArg Timer.deadlines hlist] at hrest
    rw [← filter_hold_fresh]
    exact hlist.trans hrest

end Sys2Proof.Machine
end

section
/-! SUPPORT. Notices that one operation after another offers to the queues, all of them naming one slot (R79), and REASSIGN, which offers three
kinds of them. -/

namespace Sys2Proof.Machine

/-! ## Notices offered one after another -/

/-- Offering one list of notices after another is offering the two in a row (R79). -/
theorem offerMany_append (q : List Notice) (ns ms : List Notice) :
    offerMany q (ns ++ ms) =
      ((offerMany (offerMany q ns).1 ms).1, (offerMany q ns).2 + (offerMany (offerMany q ns).1 ms).2) := by
  induction ns generalizing q with
  | nil => simp [offerMany]
  | cons n ns ih =>
    rw [List.cons_append, offerMany, ih]
    simp only [offerMany, Prod.mk.injEq, true_and]
    omega

@[simp] theorem offerMany_nil (q : List Notice) : offerMany q [] = (q, 0) := rfl

theorem offerMany_single (q : List Notice) (n : Notice) :
    offerMany q [n] = ((offerQueue q n).1, if (offerQueue q n).2 then 1 else 0) := by
  simp [offerMany]

/-- The count of queued notices that slot `i`'s record keeps; 0 when the slot is FREE (R18). -/
def State.refsOf (s : State) (i : Slot) : Nat := (s.point i).elim 0 Point.refs

/-- The notices appended when port `r`'s queue is offered `ns r`, for each port (R78). -/
def State.appended (s : State) (ns : Port → List Notice) : Nat := (allPorts.map fun r => (offerMany (s.queue r) (ns r)).2).sum

/-- From `s` to `t` each port `r` was offered the notices `ns r`, in their order, all of them naming slot `i`: the queues have dealt with them
(R77, R78) and the slot's reference count has risen by those appended (R19); no other slot was touched. -/
structure Delivers (i : Slot) (ns : Port → List Notice) (s t : State) : Prop where
  queues : QueuesAre t fun r => (offerMany (s.queue r) (ns r)).1
  refs : t.refsOf i = s.refsOf i + s.appended ns
  others : OtherSlotsKept s t i

theorem Delivers.of_eq {i : Slot} {ns ms : Port → List Notice} {s t : State} (h : Delivers i ns s t) (hns : ∀ r, ms r = ns r) :
    Delivers i ms s t := funext hns ▸ h

theorem Delivers.trans {i : Slot} {ns ms : Port → List Notice} {s t u : State} (h : Delivers i ns s t) (h' : Delivers i ms t u) :
    Delivers i (fun r => ns r ++ ms r) s u := by
  have hq : ∀ r, t.queue r = (offerMany (s.queue r) (ns r)).1 := h.queues
  refine ⟨fun r => ?_, ?_, h.others.trans h'.others⟩
  · refine (h'.queues r).trans ?_
    dsimp only
    rw [hq, offerMany_append]
  · have hsum : s.appended (fun r => ns r ++ ms r) = s.appended ns + t.appended ms := by
      simp only [State.appended, offerMany_append, hq, List.sum_map_add]
    rw [h'.refs, h.refs, hsum, Nat.add_assoc]

/-- An operation that moves no queue, no count and no other slot delivers nothing. -/
theorem Delivers.nothing {i : Slot} {s t : State} (hq : ∀ r, t.queue r = s.queue r) (hr : t.refsOf i = s.refsOf i)
    (ho : OtherSlotsKept s t i) : Delivers i (fun _ => []) s t :=
  ⟨hq, by rw [hr]; simp [State.appended], ho⟩

/-- A record put in the slot with the count it had. -/
theorem setPoint_delivers {s : State} {i : Slot} {pt qt : Point} (h : s.point i = some pt) (hr : qt.refs = pt.refs) :
    Delivers i (fun _ => []) s (s.setPoint i (some qt)) :=
  .nothing (fun _ => rfl) (by simp [State.refsOf, h, hr]) (setPoint_otherSlotsKept s i _)

theorem closeUpdate_delivers (s : State) (i : Slot) : Delivers i (fun _ => []) s (s.closeUpdate i) := by
  refine .nothing (fun _ => by simp) ?_ fun j hj => by simp [Ne.symm hj]
  rw [State.refsOf, State.refsOf, closeUpdate_point, if_pos rfl]
  cases s.point i <;> rfl

/-- What is offered to one port alone is appended to its queue alone. -/
theorem appended_of_one (s : State) (p : Port) {ns : Port → List Notice} (h : ∀ r, r ≠ p → ns r = []) :
    s.appended ns = (offerMany (s.queue p) (ns p)).2 := by
  have hsum := sum_map_add_of_ne allPorts_nodup (mem_allPorts p) (f := fun _ => 0)
    (g := fun r => (offerMany (s.queue r) (ns r)).2) fun r hr => by rw [h r hr]; rfl
  simpa [State.appended] using hsum

/-- An offer to one port, of a notice that names the slot (R19, R76 to R78). -/
theorem offer_delivers {s : State} {i : Slot} {pt : Point} (h : s.point i = some pt) (p : Port) {n : Notice} (hn : n.slot? = some i) :
    Delivers i (fun r => if r = p ∧ s.mute r = false then [n] else []) s (s.offer p n) := by
  obtain ⟨hpoint, hothers⟩ := offer_point_named h p hn
  refine ⟨fun r => ?_, ?_, hothers⟩
  · rw [offer_queuesAre s p n r]
    unfold State.offered
    by_cases hr : r = p
    · subst hr
      cases hm : s.mute r <;> simp [hm, offerMany_single]
    · simp [hr]
  · rw [appended_of_one s p fun r hr => if_neg fun hc => hr hc.1, State.refsOf, State.refsOf, hpoint, h]
    unfold State.offered
    cases s.mute p <;> simp [offerMany_single]

/-- An event on the slot's point, routed to every port (R19, R73). -/
theorem route_delivers {s : State} {i : Slot} {pt : Point} (h : s.point i = some pt) (k : WatchKind) {mk : FilterNo → Notice}
    (hmk : ∀ f, (mk f).slot? = some i) :
    Delivers i (fun r => ((s.routeFilter pt k r).map mk).toList) s (s.route i k mk) := by
  have hdel : ∀ r, offerMany (s.queue r) ((s.routeFilter pt k r).map mk).toList =
      ((s.delivery pt k mk r).1, if (s.delivery pt k mk r).2 then 1 else 0) := fun r => by
    unfold State.delivery
    cases s.routeFilter pt k r with
    | none => rfl
    | some f => exact offerMany_single _ _
  obtain ⟨hqueue, hpoint, hothers⟩ := route_spec s i k mk hmk pt h
  refine ⟨fun r => (hqueue r).trans (congrArg Prod.fst (hdel r)).symm, ?_, hothers⟩
  have happended : s.appended (fun r => ((s.routeFilter pt k r).map mk).toList) = s.deliveries pt k mk := by
    unfold State.appended State.deliveries
    simp only [hdel]
    induction allPorts with
    | nil => rfl
    | cons r l ih => rw [List.map_cons, List.sum_cons, ih, List.countP_cons, Nat.add_comm]
  rw [State.refsOf, State.refsOf, hpoint, h, happended]
  rfl

/-! ## REASSIGN -/

/-- The refusals of R123, all denied: a REASSIGN of this point to this port is carried out. -/
theorem reassign_passes_iff {s : State} {p target : Port} {i : Slot} {pt : Point} (h : s.point i = some pt) :
    firstRefusal (s.refusals p (.reassign i (portByte target))) = .ok ↔
      p = s.supervisor ∧ pt.state ≠ .retiring ∧ s.badTarget target = false := by
  have hrange : ¬3 < (portByte target).toNat := by rw [← portOf_eq_none, portOf_portByte]; exact nofun
  have hbad := any_named_port (portOf_portByte target) s.badTarget
  unfold State.badTarget at hbad
  refine (firstRefusal_cons_eq_ok_iff (by decide)).trans ?_
  simp only [firstRefusal_cons_eq_ok_iff, ne_eq, reduceCtorEq, not_false_eq_true, firstRefusal_nil, hbad, holds_of_some h, h]
  simp [hrange, State.badTarget]

/-- Step 1 of R124: EXPIRED to the owner if an update was open (R75). -/
theorem expireUpdate_delivers {s : State} {i : Slot} {pt : Point} (h : s.point i = some pt) :
    Delivers i (fun r => if pt.updateOpen = true ∧ r = pt.owner ∧ s.mute r = false then [.expired i pt.key false] else []) s
      (s.expireUpdate i) := by
  unfold State.expireUpdate
  rw [h]
  dsimp only
  cases hu : pt.updateOpen with
  | false => simpa using Delivers.nothing (i := i) (fun _ => rfl) rfl fun _ _ => rfl
  | true =>
    have hclosed : (s.closeUpdate i).point i = some { pt with updateOpen := false } := by simp [h]
    simpa using (closeUpdate_delivers s i).trans (offer_delivers hclosed pt.owner (n := .expired i pt.key false) rfl)

/-- Step 4 of R124: REFRESH to the owner while refresh is pending. -/
theorem remindOwner_delivers {s : State} {i : Slot} {pt : Point} (h : s.point i = some pt) :
    Delivers i (fun r => if pt.refreshPending = true ∧ r = pt.owner ∧ s.mute r = false then [.refresh i pt.key false] else []) s
      (s.remindOwner i) := by
  unfold State.remindOwner
  rw [h]
  dsimp only
  cases hr : pt.refreshPending with
  | false => simpa using Delivers.nothing (i := i) (fun _ => rfl) rfl fun _ _ => rfl
  | true => simpa using offer_delivers h pt.owner (n := .refresh i pt.key false) rfl

/-- The five steps of R124 on slot `i`, with port `q` the new owner. -/
def State.handOver (s : State) (i : Slot) (q : Port) : State :=
  State.routeOwner (some q) (((s.expireUpdate i).giveTo i q).remindOwner i) i

/-- A REASSIGN that passes its refusals hands the point over and answers with its old owner (R124). -/
theorem reassignOp_passed {s : State} {i : Slot} {pt : Point} {q : Port} (h : s.point i = some pt) (hst : pt.state ≠ .retiring)
    (hb : s.badTarget q = false) : reassignOp s.supervisor i (portByte q) s = (s.handOver i q, .ok [portByte pt.owner]) := by
  unfold reassignOp
  rw [if_neg (not_not.mpr rfl), portOf_portByte]
  dsimp only
  rw [h]
  dsimp only
  rw [if_neg hst, if_neg (by simp [hb])]
  rfl

theorem remindOwner_keep {β : Type} (g : State → β) (hoffer : ∀ s p n, g (State.offer s p n) = g s) (s : State) (i : Slot) :
    g (s.remindOwner i) = g s := by
  unfold State.remindOwner
  split
  · rfl
  · split
    · exact hoffer ..
    · rfl

/-- Reminding the owner moves the point's reference count alone. -/
theorem remindOwner_point (s : State) (i : Slot) :
    ∃ n, (s.remindOwner i).point i = (s.point i).map fun pt => { pt with refs := pt.refs + n } := by
  unfold State.remindOwner
  split
  · exact ⟨0, Option.map_id'.symm⟩
  · next pt h =>
    split
    · obtain ⟨hpoint, -⟩ := offer_point_named h pt.owner (n := .refresh i pt.key false) rfl
      exact ⟨_, hpoint.trans (by rw [h]; rfl)⟩
    · exact ⟨0, Option.map_id'.symm⟩

/-- The OWNER notice, by filter `f`, of the event that port `o`, or none, has become the point's owner (R72, R126). -/
def Point.ownerNotice (pt : Point) (i : Slot) (o : Option Port) (f : FilterNo) : Notice := .owner i pt.key o f false

theorem routeOwner_eq {s : State} {i : Slot} {pt : Point} (h : s.point i = some pt) (o : Option Port) :
    State.routeOwner o s i = s.route i .owner (pt.ownerNotice i o) := by
  unfold State.routeOwner
  rw [h]
  rfl

/-- Handing a point over changes, beyond what closing its update changes, nothing but the point and what offers change. -/
theorem handOver_keep {β : Type} (g : State → β) (hpoint : ∀ s i x, g (State.setPoint s i x) = g s)
    (hoffer : ∀ s p n, g (State.offer s p n) = g s) (s : State) (i : Slot) (q : Port) :
    g (s.handOver i q) = g (s.closeUpdate i) := by
  have howner : ∀ s, g (State.routeOwner (some q) s i) = g s := fun s => by
    unfold State.routeOwner
    split
    · rfl
    · exact routed_keep g hoffer ..
  have hgive : ∀ s, g (State.giveTo s i q) = g s := fun s => by
    unfold State.giveTo
    split
    · rfl
    · exact hpoint ..
  have hexpire : g (s.expireUpdate i) = g (s.closeUpdate i) := by
    unfold State.expireUpdate
    split
    · next h => unfold State.closeUpdate; rw [h]
    · next pt h =>
      split
      · exact hoffer ..
      · next hu => unfold State.closeUpdate; rw [h]; exact congrArg g (if_neg hu).symm
  rw [State.handOver, howner, remindOwner_keep g hoffer, hgive, hexpire]

/-- The record of a point given to port `q`, once its update has expired and its count become `n` (R124, steps 1 to 3). -/
def Point.givenTo (pt : Point) (q : Port) (n : Nat) : Point := { pt with owner := q, updateOpen := false, orphaned := false, refs := n }

theorem giveTo_expired {s : State} {i : Slot} {pt : Point} (h : s.point i = some pt) (q : Port) :
    ∃ n, (s.expireUpdate i).refsOf i = n ∧
      (s.expireUpdate i).giveTo i q = (s.expireUpdate i).setPoint i (some (pt.givenTo q n)) := by
  obtain ⟨n, hexpired⟩ := expireUpdate_point h
  refine ⟨pt.refs + n, by rw [State.refsOf, hexpired]; rfl, ?_⟩
  unfold State.giveTo
  rw [hexpired]
  rfl

/-- The point handed over is the new owner's, with no update open and not orphaned, and is else as it was but for its count (R124). -/
theorem handOver_point {s : State} {i : Slot} {pt : Point} (h : s.point i = some pt) (q : Port) :
    (s.handOver i q).point i = some (pt.givenTo q ((s.handOver i q).refsOf i)) := by
  obtain ⟨n, -, hgive⟩ := giveTo_expired h q
  obtain ⟨m, hreminded⟩ := remindOwner_point ((s.expireUpdate i).giveTo i q) i
  obtain ⟨k, hrouted⟩ := routeOwner_point (some q) (((s.expireUpdate i).giveTo i q).remindOwner i) i i
  have hpoint : (s.handOver i q).point i = some (pt.givenTo q (n + m + k)) := by
    rw [State.handOver, hrouted, hreminded, hgive, setPoint_point, if_pos rfl]
    rfl
  rw [State.refsOf, hpoint]
  rfl

/-- The notices that handing a point over offers are those of R124, in their order. -/
theorem handOver_delivers {s : State} {i : Slot} {pt : Point} (h : s.point i = some pt) (q : Port) :
    Delivers i (s.reassignNotices i pt q) s (s.handOver i q) := by
  obtain ⟨n, hrefs, hgive⟩ := giveTo_expired h q
  obtain ⟨k, hexpired⟩ := expireUpdate_point h
  set g := (s.expireUpdate i).setPoint i (some (pt.givenTo q n)) with hg
  have hgiven : g.point i = some (pt.givenTo q n) := by simp [hg]
  obtain ⟨m, hreminded⟩ := remindOwner_point g i
  rw [hgiven, Option.map_some] at hreminded
  have hgive' : Delivers i (fun _ => []) (s.expireUpdate i) g :=
    setPoint_delivers hexpired (by rw [State.refsOf, hexpired] at hrefs; exact hrefs.symm)
  have hchain := (((expireUpdate_delivers h).trans hgive').trans (remindOwner_delivers hgiven)).trans
    (route_delivers hreminded .owner (mk := pt.ownerNotice i (some q)) fun _ => rfl)
  have hmute : ∀ r, g.mute r = s.mute r := by simp [hg]
  have hfilter : ∀ r, (g.remindOwner i).routeFilter { pt.givenTo q n with refs := (pt.givenTo q n).refs + m } .owner r =
      s.routeFilter { pt with owner := q } .owner r := fun r =>
    routeFilter_congr _ _ _ _ _ _ ((remindOwner_keep (fun s => s.mute r) (by simp) g i).trans (hmute r))
      ((remindOwner_keep (fun s => s.filters r) (by simp) g i).trans (by simp [hg])) rfl rfl rfl
  rw [State.handOver, hgive, routeOwner_eq hreminded]
  refine hchain.of_eq fun r => ?_
  rw [hfilter, hmute, List.append_nil]
  unfold State.reassignNotices
  cases s.routeFilter { pt with owner := q } .owner r <;> rfl

/-- The deadline list after a close (R33). -/
theorem closeUpdate_deadlinesAre {s : State} {i : Slot} {pt : Point} (h : s.point i = some pt) :
    DeadlinesAre s (s.closeUpdate i)
      (if pt.updateOpen then s.timer.deadlines.filter fun d => !d.names i .hold else s.timer.deadlines) := by
  unfold DeadlinesAre
  rw [closeUpdate_timer, h]
  dsimp only
  split <;> rfl

/-- Settles O34: the point is handed over (`handOver_point`), with the notices of `handOver_delivers` and all else as closing the update leaves
it (`handOver_keep`). -/
theorem reassignTaken : Obligations.ReassignTaken := by
  intro s p target tag i pt hp hpt
  obtain ⟨ht, hr⟩ := hp
  obtain ⟨rfl, hst, hbad⟩ := (reassign_passes_iff hpt).mp hr
  set b := s.setGrant (.port s.supervisor) with hb
  have hop : reassignOp s.supervisor i (portByte target) b = (b.handOver i target, .ok [portByte pt.owner]) :=
    reassignOp_passed (s := b) hpt hst hbad
  have hkeep := fun {β : Type} (g : State → β) hpoint hoffer => handOver_keep (β := β) g hpoint hoffer b i target
  obtain ⟨t, he, ha, hd⟩ := passed_answered ht rfl hop (fun q => (hkeep (fun s => s.engine q) (by simp) (by simp)).trans (by simp [hb]))
    ((hkeep (fun s => s.standing) (by simp) (by simp)).trans (by simp [hb]))
    ((hkeep (fun s => s.supply) (by simp) (by simp)).trans (by simp [hb]))
    ((hkeep (fun s => s.pending) (by simp) (by simp)).trans (by simp [hb]))
    ((hkeep (fun s => s.lastGrant) (by simp) (by simp)).trans (by simp [hb]))
  obtain ⟨hqueues, hrefs, hothers⟩ := handOver_delivers (s := b) hpt target
  have hpoint := handOver_point (s := b) hpt target
  refine ⟨t, he, ha, ?_, hd.otherSlotsKept hothers, hd.storeKept ⟨?_, ?_⟩, ?_, hd.filtersKept fun q => ?_, hd.queuesAre hqueues,
    hd.deadlinesAre ?_⟩
  · rw [hd.point, hpoint, hrefs, State.refsOf, show b.point i = some pt from hpt]
    rfl
  · exact (hkeep (fun s => s.dir.index) (by simp) (by simp)).trans (by simp [hb])
  · exact (hkeep (fun s => s.dir.freeGranules) (by simp) (by simp)).trans (by simp [hb])
  · exact counts_congr (fun q => (hd.openUpdates q).trans (hkeep (fun s => s.openUpdates q) (by simp) (by simp)))
      (closeUpdate_counts (s := b) hpt)
  · exact (hkeep (fun s => s.filters q) (by simp) (by simp)).trans (by simp [hb])
  · exact (hkeep (fun s => s.timer) (by simp) (by simp)).trans (closeUpdate_deadlinesAre (s := b) hpt)

end Sys2Proof.Machine
end

section
/-! SUPPORT. What an outcome does to a port's record (R129 to R136), and what operations leave of the standing unit, the port engines and the
supply watch. -/

namespace Sys2Proof.Machine

/-! ## Outcomes -/

/-- The record of a port that is not mute or RESTORING, once its score is `n`: the band of `n`, report pending if the band moved, sever pending
at 255 (R132, R134, R136). -/
def StandingRec.scored (r : StandingRec) (n : Nat) : StandingRec :=
  { score := n, standing := Standing.ofScore n, severPending := n == 255,
    reportPending := r.reportPending || Standing.ofScore n != r.standing }

/-- The score after an outcome, held in range (R129, R131). -/
def StandingRec.newScore (isSup : Bool) (st : Status) (r : StandingRec) : Nat := min (rescore st r.score) (scoreCap isSup)

theorem after_of_fixed {r : StandingRec} (isSup : Bool) (st : Status)
    (h : r.severPending = true ∨ r.standing = .severed ∨ r.standing = .restoring) : r.after isSup st = r := by
  unfold StandingRec.after
  rw [if_pos (by simpa [or_assoc] using h)]

/-- A sound record whose score an outcome does not move is already the record that its score gives. -/
theorem scored_self {isSup : Bool} {r : StandingRec} (hs : r.sound isSup) (hp : r.severPending = false) (hsev : r.standing ≠ .severed)
    (hres : r.standing ≠ .restoring) : r.scored r.score = r := by
  obtain ⟨-, -, -, hband, -⟩ := hs
  obtain ⟨hst, htop⟩ := hband ⟨hsev, hres⟩
  have hscore : (r.score == 255) = r.severPending := by
    rw [hp]
    exact beq_false_of_ne fun hc => by simp [htop hc] at hp
  unfold StandingRec.scored
  rw [hscore, ← hst]
  simp

/-- What an outcome makes of a record that it may move. -/
theorem after_of_moving {isSup : Bool} {r : StandingRec} (st : Status) (hs : r.sound isSup) (hp : r.severPending = false)
    (hsev : r.standing ≠ .severed) (hres : r.standing ≠ .restoring) : r.after isSup st = r.scored (r.newScore isSup st) := by
  unfold StandingRec.after
  rw [if_neg (by simp [hp, hsev, hres])]
  dsimp only
  split
  · next hn => rw [StandingRec.newScore, hn, scored_self hs hp hsev hres]
  · rfl

theorem rescore_eq (st : Status) (n : Nat) : (rescore st n : Int) = max 0 (n + scoreChange st) := by
  cases st <;> simp only [rescore, scoreChange] <;> omega

theorem newScore_eq (isSup : Bool) (st : Status) (r : StandingRec) :
    (r.newScore isSup st : Int) = max 0 (min (if isSup then 254 else 255) (r.score + scoreChange st)) := by
  have h := rescore_eq st r.score
  unfold StandingRec.newScore scoreCap
  split <;> omega

theorem newScore_le (isSup : Bool) (st : Status) (r : StandingRec) : r.newScore isSup st ≤ scoreCap isSup := Nat.min_le_right ..

/-- The record of any score in range is sound (R128 to R132). -/
theorem scored_sound {isSup : Bool} (r : StandingRec) {n : Nat} (h : n ≤ scoreCap isSup) : (r.scored n).sound isSup := by
  unfold scoreCap at h
  obtain ⟨hsev, hres⟩ := ofScore_not_lost n
  refine ⟨?_, fun hp => ?_, fun hl => ?_, fun _ => ⟨rfl, beq_iff_eq.mpr⟩, fun hsup => ?_⟩
  · show n ≤ 255
    split at h <;> omega
  · obtain rfl : n = 255 := beq_iff_eq.mp hp
    exact ⟨rfl, rfl⟩
  · exact (hl.elim hsev hres).elim
  · show n ≤ 254
    simpa [hsup] using h

theorem after_sound {isSup : Bool} {r : StandingRec} (hs : r.sound isSup) (st : Status) : (r.after isSup st).sound isSup := by
  by_cases hf : r.severPending = true ∨ r.standing = .severed ∨ r.standing = .restoring
  · rw [after_of_fixed isSup st hf]
    exact hs
  · obtain ⟨hp, hsev, hres⟩ : r.severPending = false ∧ r.standing ≠ .severed ∧ r.standing ≠ .restoring := by simpa [not_or] using hf
    rw [after_of_moving st hs hp hsev hres]
    exact scored_sound r (newScore_le isSup st r)

/-- Settles O40: a mute or RESTORING port's record stays (`after_of_fixed`), any other becomes the record of its new score
(`after_of_moving`, `newScore_eq`). -/
theorem outcomeScored : Obligations.OutcomeScored := by
  intro r isSup st hs
  refine ⟨after_of_fixed isSup st, fun hp hsev hres => ?_, after_sound hs st⟩
  rw [after_of_moving st hs hp hsev hres]
  refine ⟨newScore_eq isSup st r, rfl, beq_iff_eq, ?_⟩
  simp [StandingRec.scored]

end Sys2Proof.Machine
end

section
/-! SUPPORT. The operations on points, queues and deadlines leave the standing unit, the port engines, the supply watch and the arbiter's grant as
they were: said once, of all that these hold together. -/

namespace Sys2Proof.Machine

/-- What the supply watch, the standing unit, the port engines and the arbiter hold, and the commands that wait: the part with its directory,
notice unit and timer unit cleared. -/
def State.bare (s : State) : State :=
  { s with dir := Directory.reset, notices := Vector.replicate 4 NoticePort.reset, timer := Timer.reset }

theorem bare_engine {s t : State} (h : t.bare = s.bare) (q : Port) : t.engine q = s.engine q := congrArg (fun s => s.engine q) h

theorem bare_record {s t : State} (h : t.bare = s.bare) (q : Port) : t.record q = s.record q := congrArg (fun s => s.record q) h

theorem bare_standing {s t : State} (h : t.bare = s.bare) : t.standing = s.standing := congrArg (fun s => s.standing) h

theorem bare_supply {s t : State} (h : t.bare = s.bare) : t.supply = s.supply := congrArg (fun s => s.supply) h

theorem bare_pending {s t : State} (h : t.bare = s.bare) : t.pending = s.pending := congrArg (fun s => s.pending) h

theorem bare_lastGrant {s t : State} (h : t.bare = s.bare) : t.lastGrant = s.lastGrant := congrArg (fun s => s.lastGrant) h

/-- Two states that agree in all of it agree so after an engine is written. -/
theorem setEngine_bare {s t : State} (h : t.bare = s.bare) (p : Port) (e : Engine) : (t.setEngine p e).bare = (s.setEngine p e).bare :=
  congrArg (fun s => s.setEngine p e) h

/-! ## The shared operations -/

@[simp] theorem offer_bare (s : State) (p : Port) (n : Notice) : (s.offer p n).bare = s.bare := by simp [State.bare]

@[simp] theorem offerStanding_bare (s : State) (p : Port) (st : Standing) : (s.offerStanding p st).bare = s.bare := offer_bare ..

@[simp] theorem routeStale_bare (s : State) (i : Slot) : (s.routeStale i).bare = s.bare := by simp [State.bare]

@[simp] theorem routeOwner_bare (o : Option Port) (s : State) (i : Slot) : (State.routeOwner o s i).bare = s.bare := by simp [State.bare]

@[simp] theorem releaseRefs_bare (s : State) (ns : List Notice) : (s.releaseRefs ns).bare = s.bare := by simp [State.bare]

@[simp] theorem flushQueue_bare (s : State) (p : Port) : (s.flushQueue p).bare = s.bare := by simp [State.bare]

@[simp] theorem closeUpdate_bare (s : State) (i : Slot) : (s.closeUpdate i).bare = s.bare := by simp [State.bare]

@[simp] theorem expireUpdate_bare (s : State) (i : Slot) : (s.expireUpdate i).bare = s.bare := by simp [State.bare]

@[simp] theorem publish_bare (s : State) (i : Slot) : (s.publish i).bare = s.bare := by simp [State.bare]

theorem retireSlot_bare {s : State} {i : Slot} {pt : Point} (h : s.point i = some pt) : (s.retireSlot i).bare = s.bare := by
  rw [retireSlot_eq h, retirePoint_eq h]
  exact (freeIfUnnamed_keep State.bare _ i (by simp [State.bare])).trans (by simp [State.bare])

/-! ## The requests' operations -/

section
variable (p : Port) (i : Slot) (s : State)

theorem createOp_bare (key : Key) (width : Byte) (readers : PortSet) (fresh : BitVec 16) :
    (createOp p key width readers fresh s).1.bare = s.bare := by
  fun_cases createOp p key width readers fresh s <;> rfl

theorem openOp_bare : (openOp p i s).1.bare = s.bare := by
  fun_cases openOp p i s <;> rfl

theorem writeOp_bare (offset : Byte) (data : List Byte) : (writeOp p i offset data s).1.bare = s.bare := by
  fun_cases writeOp p i offset data s <;> rfl

theorem commitOp_bare : (commitOp p i s).1.bare = s.bare := by
  fun_cases commitOp p i s with
  | case6 => rw [publish_bare, closeUpdate_bare]
  | _ => rfl

theorem discardOp_bare : (discardOp p i s).1.bare = s.bare := by
  fun_cases discardOp p i s with
  | case5 => exact closeUpdate_bare s i
  | _ => rfl

theorem putOp_bare (offset : Byte) (data : List Byte) : (putOp p i offset data s).1.bare = s.bare := by
  fun_cases putOp p i offset data s with
  | case7 => exact publish_bare ..
  | _ => rfl

theorem refreshOp_bare : (refreshOp p i s).1.bare = s.bare := by
  fun_cases refreshOp p i s with
  | case7 => exact offer_bare ..
  | _ => rfl

theorem retireOp_bare : (retireOp p i s).1.bare = s.bare := by
  fun_cases retireOp p i s with
  | case5 hl pt h ho hst =>
    have hclosed : (s.closeUpdate i).point i = some { pt with updateOpen := false } := by simp [h]
    exact (retireSlot_bare hclosed).trans (closeUpdate_bare s i)
  | _ => rfl

theorem watchOp_bare (filter : Byte) (key mask : Key) (kinds : KindSet) : (watchOp p filter key mask kinds s).1.bare = s.bare := by
  fun_cases watchOp p filter key mask kinds s <;> rfl

theorem unwatchOp_bare (filter : Byte) : (unwatchOp p filter s).1.bare = s.bare := by
  fun_cases unwatchOp p filter s <;> rfl

theorem takeOp_bare (count : Byte) : (takeOp p count s).1.bare = s.bare := by
  fun_cases takeOp p count s with
  | case1 => rfl
  | case2 => exact releaseRefs_bare ..

theorem flushOp_bare (target : Byte) : (flushOp p target s).1.bare = s.bare := by
  fun_cases flushOp p target s with
  | case3 => exact flushQueue_bare ..
  | _ => rfl

theorem reassignOp_bare (target : Byte) : (reassignOp p i target s).1.bare = s.bare := by
  fun_cases reassignOp p i target s with
  | case6 hp q =>
    exact (handOver_keep State.bare (fun _ _ _ => rfl) offer_bare s i q).trans (closeUpdate_bare s i)
  | _ => rfl

theorem timingOp_bare (tickdiv : Byte) (holdlim : BitVec 16) : (timingOp p tickdiv holdlim s).1.bare = s.bare := by
  fun_cases timingOp p tickdiv holdlim s <;> rfl

/-- Of the requests, ATTEND and RESTORE alone reach beyond the directory, the notice unit and the timer unit (R88, R142). -/
theorem requestOp_bare {r : Request} (ha : ∀ on, r ≠ .attend on) (hr : ∀ target, r ≠ .restore target) :
    (requestOp p r s).1.bare = s.bare := by
  cases r with
  | nop => rfl
  | status => rfl
  | attend on => exact (ha on rfl).elim
  | resend tag => rfl
  | create key width readers fresh => exact createOp_bare ..
  | find target => rw [requestOp, findOp_state]
  | read i offset length => rw [requestOp, readOp_state]
  | scan key mask after count => rw [requestOp, scanOp_state]
  | openUpdate i => exact openOp_bare ..
  | write i offset data => exact writeOp_bare ..
  | commit i => exact commitOp_bare ..
  | discard i => exact discardOp_bare ..
  | put i offset data => exact putOp_bare ..
  | refresh i => exact refreshOp_bare ..
  | retire i => exact retireOp_bare ..
  | watch filter key mask kinds => exact watchOp_bare ..
  | unwatch filter => exact unwatchOp_bare ..
  | take count => exact takeOp_bare ..
  | restore target => exact (hr target rfl).elim
  | flush target => exact flushOp_bare ..
  | reassign i target => exact reassignOp_bare ..
  | timing tickdiv holdlim => exact timingOp_bare ..

/-- RESTORE moves its target's record and count, when it is carried out, and nothing else of these (R142). -/
theorem restoreOp_bare (target : Byte) :
    (restoreOp p target s).1.bare = s.bare ∨
    ∃ q, (s.record q).standing = .severed ∧ (restoreOp p target s).1.bare =
      ((s.setEngine q { s.engine q with restoreCount := 0 }).setRecord q { s.record q with standing := .restoring }).bare := by
  fun_cases restoreOp p target s with
  | case4 hp q hq hsev => exact .inr ⟨q, not_not.mp hsev, offerStanding_bare ..⟩
  | _ => exact .inl rfl

/-! ## The timer and standing units' operations -/

theorem expire_bare (k : DeadlineKind) : (s.expire i k).bare = s.bare := by
  cases k with
  | fresh =>
    show (s.expireFresh i).bare = s.bare
    fun_cases State.expireFresh s i with
    | case2 => exact routeStale_bare ..
    | _ => rfl
  | hold => exact expireUpdate_bare ..

/-- A sever's record (R138, step 1). -/
def StandingRec.severed (r : StandingRec) : StandingRec := { r with standing := .severed, severPending := false, reportPending := false }

/-- The sever operation as its steps on the points (`State.severPoints`), on the port, and its notices (R138). -/
theorem severPort_eq :
    s.severPort p = ((((s.setRecord p (s.record p).severed).dropUpdates p).livingSlots p).foldl (State.routeOwner none)
      ((((s.setRecord p (s.record p).severed).severPoints p).flushQueue p).clearPort p)).offerStanding p .severed := rfl

/-- Steps 2 and 3 of R138 move the table, the deadline list and the severed port's open-update count, and nothing else. -/
theorem severPoints_eq : ∃ table timer, s.severPoints p =
    { s with dir := { s.dir with table := table, openUpdates := s.dir.openUpdates.set p.val 0 p.isLt }, timer := timer } := by
  have hdrop : ∀ (l : List Slot) (s : State), ∃ table timer,
      l.foldl State.dropUpdate s = { s with dir := { s.dir with table := table }, timer := timer } := by
    intro l
    induction l with
    | nil => exact fun s => ⟨s.dir.table, s.timer, rfl⟩
    | cons i l ih =>
      intro s
      obtain ⟨table, timer, hi⟩ := dropUpdate_keeps s i
      obtain ⟨table', timer', hl⟩ := ih (s.dropUpdate i)
      exact ⟨table', timer', by rw [List.foldl_cons, hl, hi]⟩
  have horphan : ∀ (l : List Slot) (s : State), ∃ table,
      l.foldl State.orphan s = { s with dir := { s.dir with table := table } } := by
    intro l
    induction l with
    | nil => exact fun s => ⟨s.dir.table, rfl⟩
    | cons i l ih =>
      intro s
      have hi : ∃ table, s.orphan i = { s with dir := { s.dir with table := table } } := by
        unfold State.orphan
        split
        · exact ⟨s.dir.table, rfl⟩
        · exact ⟨_, rfl⟩
      obtain ⟨table, hi⟩ := hi
      obtain ⟨table', hl⟩ := ih (s.orphan i)
      exact ⟨table', by rw [List.foldl_cons, hl, hi]⟩
  obtain ⟨table, timer, hd⟩ := hdrop (s.openSlots p) s
  obtain ⟨table', ho⟩ := horphan ((s.dropUpdates p).livingSlots p) (s.dropUpdates p)
  exact ⟨table', timer, by rw [State.severPoints, ho, State.dropUpdates, hd]; rfl⟩

theorem severPoints_bare : (s.severPoints p).bare = s.bare := by
  obtain ⟨table, timer, h⟩ := severPoints_eq p s
  rw [h]
  rfl

theorem clearPort_bare : (s.clearPort p).bare = (s.setEngine p { s.engine p with hold := none, attention := false }).bare := rfl

/-- SEVER moves its port's record, hold and attention enable alone of these (R138, steps 1, 5 and 6). -/
theorem severPort_bare :
    (s.severPort p).bare = ((s.setRecord p (s.record p).severed).setEngine p { s.engine p with hold := none, attention := false }).bare := by
  have hpoints : (((s.setRecord p (s.record p).severed).severPoints p).flushQueue p).bare = (s.setRecord p (s.record p).severed).bare := by
    rw [flushQueue_bare, severPoints_bare]
  rw [severPort_eq, offerStanding_bare, foldl_keep State.bare (routeOwner_bare none), clearPort_bare, bare_engine hpoints]
  exact setEngine_bare hpoints p _

/-- RESTORATION_COMPLETE moves its port's record and count alone of these (R144, step 1). -/
theorem restorePort_bare :
    (s.restorePort p).bare = ((s.setRecord p { s.record p with standing := .good, score := 0, reportPending := false }).setEngine p
      { s.engine p with restoreCount := 0 }).bare := by
  have hadopt : ∀ s i, (State.adopt p s i).bare = s.bare := fun s i => by
    unfold State.adopt
    split
    · rfl
    · exact routeOwner_bare ..
  unfold State.restorePort
  dsimp only
  rw [offerStanding_bare, foldl_keep State.bare hadopt]

theorem reportStanding_bare :
    (s.reportStanding p).bare = (s.setRecord p { s.record p with reportPending := false }).bare := offerStanding_bare ..

end

end Sys2Proof.Machine
end

section
/-! SUPPORT. Every step keeps each port's standing what its score gives, and what the standing unit presents what it holds: the requests'
operations, the standing unit's own, and the events that answer a frame or withdraw a request. -/

namespace Sys2Proof.Machine

/-! ## What the standing unit holds -/

/-- The port's part of the state still gives the request that the standing unit presents (R135). -/
def State.backs (s : State) : StandingRequest → Prop
  | .sever p => (s.record p).severPending = true
  | .restored p => (s.record p).standing = .restoring ∧ (s.engine p).restoreCount = 32
  | .change p => (s.record p).reportPending = true

/-- The standing unit holds no request: no port has a sever to take, a restoration completed or a report pending (R135). -/
theorem heldRequest_eq_none_iff {s : State} :
    s.heldRequest = none ↔ ∀ q, ¬((s.record q).severPending = true ∧ (s.engine q).request = none) ∧
      ¬((s.record q).standing = .restoring ∧ (s.engine q).restoreCount = 32) ∧ ¬(s.record q).reportPending = true := by
  rcases heldRequest_cases (s := s) (fun _ => .rfl) (fun _ => .rfl) (fun _ => .rfl) with
    ⟨p, hr, hf⟩ | ⟨p, hr, -, hf⟩ | ⟨p, hr, -, -, hf⟩ | ⟨hr, hn⟩
  · exact iff_of_false (by simp [hr]) fun h => (h p).1 hf.1
  · exact iff_of_false (by simp [hr]) fun h => (h p).2.1 hf.1
  · exact iff_of_false (by simp [hr]) fun h => (h p).2.2 hf.1
  · exact iff_of_true hr hn

theorem heldRequest_backed {s : State} {r : StandingRequest} (h : s.heldRequest = some r) : s.backs r := by
  rcases heldRequest_cases (s := s) (fun _ => .rfl) (fun _ => .rfl) (fun _ => .rfl) with
    ⟨p, hr, hf⟩ | ⟨p, hr, -, hf⟩ | ⟨p, hr, -, -, hf⟩ | ⟨hr, -⟩ <;> rw [hr] at h <;> cases h
  · exact hf.1.1
  · exact hf.1
  · exact hf.1

/-- Outside RESET: `StandingSound` but for a request that is held and not yet presented. -/
structure StandingReady (s : State) : Prop where
  awake : s.supply.state ≠ .reset
  records : ∀ p, (s.record p).sound (p == s.supervisor)
  request : ∀ r, s.standing.request = some r → s.backs r

theorem standingSound_iff {s : State} (h : s.supply.state ≠ .reset) :
    StandingSound s ↔ StandingReady s ∧ (s.standing.request = none → s.heldRequest = none) := by
  constructor
  · rintro ⟨hrec, hsever, hdone, hchange, hheld, -⟩
    refine ⟨⟨h, hrec, fun r hr => ?_⟩, hheld⟩
    cases r with
    | sever p => exact hsever p hr
    | restored p => exact hdone p hr
    | change p => exact hchange p hr
  · rintro ⟨⟨-, hrec, hreq⟩, hheld⟩
    exact ⟨hrec, fun p => hreq (.sever p), fun p => hreq (.restored p), fun p => hreq (.change p), hheld, fun hc => (h hc).elim⟩

theorem StandingSound.ready {s : State} (hs : StandingSound s) (h : s.supply.state ≠ .reset) : StandingReady s :=
  ((standingSound_iff h).mp hs).1

/-- Once the first held request is presented nothing is held and not presented (R135; log 10). -/
theorem StandingReady.presentHeld {s : State} (h : StandingReady s) : StandingSound s.presentHeld := by
  have hheld : s.presentHeld.heldRequest = s.heldRequest := by rw [presentHeld_eq]; rfl
  rw [standingSound_iff (by simpa using h.awake)]
  refine ⟨⟨by simpa using h.awake, ?_, fun r hr => ?_⟩, fun hn => ?_⟩
  · simpa [State.supervisor] using h.records
  · have hback : s.backs r := by
      rw [presentHeld_request, hheld] at hr
      cases hreq : s.standing.request with
      | none => exact heldRequest_backed (by simpa [hreq] using hr)
      | some r' =>
        obtain rfl : r' = r := by simpa [hreq] using hr
        exact h.request r' hreq
    cases r <;> simpa [State.backs] using hback
  · rw [presentHeld_request] at hn
    exact (Option.or_eq_none_iff.mp hn).2

/-- It looks at nothing of the directory, the notice unit and the timer unit. -/
theorem StandingReady.of_bare {s t : State} (h : t.bare = s.bare) (hs : StandingReady s) : StandingReady t := by
  have hbare : StandingReady t.bare := h ▸ (show StandingReady s.bare from ⟨hs.awake, hs.records, hs.request⟩)
  exact ⟨hbare.awake, hbare.records, hbare.request⟩

/-! ## Operations that keep it -/

/-- A RESTORING port's count of 32 stays, whatever frame is answered (R143; log 11). -/
theorem runAfter_of_full {restoring : Bool} (nopOk : Bool) {n : Nat} (h : n = 32) : runAfter restoring nopOk n = 32 := by
  simp [runAfter, h]

/-- A record under which the port's part of a presented request is still held. -/
theorem setRecord_backs {s : State} {p : Port} {x : StandingRec} (hsever : (s.record p).severPending = true → x.severPending = true)
    (hres : (s.record p).standing = .restoring → x.standing = .restoring)
    (hreport : (s.record p).reportPending = true → x.reportPending = true) {r : StandingRequest} (hb : s.backs r) :
    (s.setRecord p x).backs r := by
  cases r <;> simp only [State.backs, setRecord_record, setRecord_engine] at hb ⊢ <;> split
  case sever.isTrue hpq => subst hpq; exact hsever hb
  case restored.isTrue hpq => subst hpq; exact ⟨hres hb.1, hb.2⟩
  case change.isTrue hpq => subst hpq; exact hreport hb
  all_goals exact hb

section
variable {s : State} (hs : StandingReady s)
include hs

/-- An engine written for port `p` that keeps a RESTORING port's count of 32 (R143; log 11). -/
theorem StandingReady.setEngine {p : Port} {e : Engine}
    (he : (s.record p).standing = .restoring → (s.engine p).restoreCount = 32 → e.restoreCount = 32) :
    StandingReady (s.setEngine p e) := by
  refine ⟨hs.awake, hs.records, fun r hr => ?_⟩
  have hb := hs.request r hr
  cases r with
  | sever q => exact hb
  | change q => exact hb
  | restored q =>
    obtain ⟨hst, hc⟩ := hb
    refine ⟨hst, ?_⟩
    rw [setEngine_engine]
    split
    · next hpq => subst hpq; exact he hst hc
    · exact hc

/-- A sound record written for port `p`, under which the request presented is still held. -/
theorem StandingReady.setRecord {p : Port} {x : StandingRec} (hx : x.sound (p == s.supervisor))
    (hb : ∀ r, s.standing.request = some r → s.backs r → (s.setRecord p x).backs r) : StandingReady (s.setRecord p x) := by
  refine ⟨hs.awake, fun q => ?_, fun r hr => hb r hr (hs.request r hr)⟩
  rw [setRecord_record]
  split
  · next hpq => subst hpq; exact hx
  · exact hs.records q

/-- An outcome leaves a sever or a report pending, and a RESTORING port RESTORING (R130, R134, R136). -/
theorem StandingReady.scoreOutcome (p : Port) (st : Status) : StandingReady (s.scoreOutcome p st) := by
  refine hs.setRecord (after_sound (hs.records p) st) fun r _ => setRecord_backs (fun h => ?_) (fun h => ?_) fun h => ?_
  · rw [after_of_fixed _ st (.inl h)]; exact h
  · rw [after_of_fixed _ st (.inr (.inr h))]; exact h
  · fun_cases StandingRec.after (p == s.supervisor) st (s.record p) with
    | case3 => exact Bool.or_eq_true_iff.mpr (.inl h)
    | _ => exact h

theorem StandingReady.muteEngine (p : Port) : StandingReady (s.muteEngine p) := by
  have hcount : (s.engine p).silence.restoreCount = (s.engine p).restoreCount := by
    unfold Engine.silence Engine.blankPeriod
    cases (s.engine p).period <;> dsimp only <;> split <;> rfl
  unfold State.muteEngine
  split
  · exact hs.setEngine fun _ hc => hcount.trans hc
  · exact hs

theorem StandingReady.settleOutcome (p : Port) (st : Status) : StandingSound (s.settleOutcome p st) :=
  ((hs.scoreOutcome p st).muteEngine p).presentHeld

theorem StandingReady.send (p : Port) (a : Answer) : StandingReady (s.send p a) :=
  hs.setEngine fun _ hc => by
    unfold Engine.send
    split <;> exact hc

theorem StandingReady.breakRun (p : Port) : StandingReady (s.breakRun p) := by
  rw [breakRun_eq]
  exact hs.setEngine fun _ => runAfter_of_full false

theorem StandingReady.extendRun (p : Port) : StandingReady (s.extendRun p) := by
  rw [extendRun_eq]
  exact hs.setEngine fun _ => runAfter_of_full true

theorem StandingReady.handBack (p : Port) (tag : Byte) (c : Command) (r : Reply) : StandingSound (s.handBack p tag c r) := by
  unfold State.handBack
  dsimp only
  refine StandingReady.settleOutcome ?_ p r.status
  split
  · refine StandingReady.extendRun (StandingReady.send (hs.setEngine ?_) p _) p
    exact fun _ hc => hc
  · refine StandingReady.breakRun (StandingReady.send (hs.setEngine ?_) p _) p
    exact fun _ hc => hc

theorem StandingReady.answerFrame (p : Port) (frame : List Byte) (a : Answer) (st : Status) :
    StandingSound (s.answerFrame p frame a st) := by
  have haccepted : StandingReady (s.acceptBytes p frame) := hs.setEngine fun _ hc => hc
  exact ((haccepted.send p a).breakRun p).settleOutcome p st

theorem StandingReady.withdraw (p : Port) : StandingReady (s.withdraw p) := by
  unfold State.withdraw
  split
  · exact hs
  · refine StandingReady.muteEngine (StandingReady.breakRun (StandingReady.send (hs.setEngine ?_) p _) p) p
    exact fun _ hc => hc

end

end Sys2Proof.Machine
end

section
/-! SUPPORT. Every command keeps `StandingSound`: grants by what their operations do to the ports, other events by what they leave alone. -/

namespace Sys2Proof.Machine

open Host (Outcome)

/-! ## Granted operations -/

theorem running_of_nextGrant {s : State} {g : Requester} (h : s.nextGrant = some g) : s.supply.state = .running :=
  ((nextGrant_eq_some_iff s g).mp h).1

/-- A port severed with its score at 255 (R138); the supervisor's never is (R131). -/
theorem StandingRec.sound.severed {isSup : Bool} {r : StandingRec} (h : r.sound isSup) (hp : r.severPending = true) :
    r.severed.sound isSup := by
  obtain ⟨hle, hsever, -, -, hsup⟩ := h
  exact ⟨hle, nofun, fun _ => ⟨(hsever hp).1, rfl⟩, fun hn => (hn.1 rfl).elim, hsup⟩

/-- A SEVERED port made RESTORING with its score kept (R142). -/
theorem StandingRec.sound.restoring {isSup : Bool} {r : StandingRec} (h : r.sound isSup) (hr : r.standing = .severed) :
    ({ r with standing := .restoring } : StandingRec).sound isSup := by
  obtain ⟨hle, -, hlost, -, hsup⟩ := h
  obtain ⟨hscore, hsever⟩ := hlost (.inl hr)
  exact ⟨hle, fun hp => absurd hp (by simp [hsever]), fun _ => ⟨hscore, hsever⟩, fun hn => (hn.2 rfl).elim, hsup⟩

/-- A RESTORING port made GOOD with score 0 (R144). -/
theorem StandingRec.sound.restored {isSup : Bool} {r : StandingRec} (h : r.sound isSup) (hr : r.standing = .restoring) :
    ({ r with standing := .good, score := 0, reportPending := false } : StandingRec).sound isSup := by
  obtain ⟨-, -, hlost, -, -⟩ := h
  obtain ⟨-, hsever⟩ := hlost (.inr hr)
  exact ⟨by simp, by simp [hsever], by simp, by simp [Standing.ofScore], by simp⟩

section
variable {s : State} (hs : StandingReady s)
include hs

/-- A RESTORE finds its target SEVERED, and so with no completed restoration presented (R142). -/
theorem StandingReady.restoreOp (p : Port) (target : Byte) : StandingReady (restoreOp p target s).1 := by
  obtain h | ⟨q, hsev, h⟩ := restoreOp_bare p s target
  · exact hs.of_bare h
  · have hcount : StandingReady (s.setEngine q { s.engine q with restoreCount := 0 }) :=
      hs.setEngine fun hres => by rw [hsev] at hres; cases hres
    refine .of_bare h (hcount.setRecord ((hs.records q).restoring hsev) fun r _ hb => setRecord_backs ?_ ?_ ?_ hb)
    · exact id
    · exact fun _ => rfl
    · exact id

theorem StandingReady.requestOp (p : Port) (r : Request) : StandingReady (requestOp p r s).1 := by
  cases r with
  | attend on => exact hs.setEngine fun _ hc => hc
  | restore target => exact hs.restoreOp p target
  | _ => exact hs.of_bare (requestOp_bare p s nofun nofun)

/-- The standing unit's operations find its request taken, and what it stood for still held (R135, R138, R144). -/
theorem StandingReady.standingOp (hn : s.standing.request = none) {r : StandingRequest} (hb : s.backs r) : StandingReady (r.op s) := by
  have hset : ∀ {p x}, x.sound (p == s.supervisor) → StandingReady (s.setRecord p x) := fun hx =>
    hs.setRecord hx fun r hr => by rw [hn] at hr; cases hr
  have hcounts : ∀ {p x e}, x.sound (p == s.supervisor) → StandingReady ((s.setRecord p x).setEngine p e) := fun hx =>
    ⟨(hset hx).awake, (hset hx).records, fun r hr => by rw [setEngine_standing, setRecord_request, hn] at hr; cases hr⟩
  cases r with
  | sever p => exact .of_bare (severPort_bare p s) (hcounts ((hs.records p).severed hb))
  | restored p => exact .of_bare (restorePort_bare p s) (hcounts ((hs.records p).restored hb.1))
  | change p => exact .of_bare (reportStanding_bare p s) (hset (hs.records p))

end

/-! ## Events -/

/-- A part whose standing unit is as after reset is sound, whichever port is the supervisor (R146). -/
theorem standingSound_of_reset {t : State} (h : t.standing = StandingUnit.reset) : StandingSound t := by
  have hrec : ∀ p, t.record p = StandingRec.reset := fun p => by
    unfold State.record
    rw [h]
    exact vector_get_replicate _ _
  have hreq : t.standing.request = none := by rw [h]; rfl
  refine ⟨fun p => ?_, by simp [hreq], by simp [hreq], by simp [hreq], fun _ => ?_, fun _ => h⟩
  · rw [hrec]
    exact scored_sound StandingRec.reset (Nat.zero_le _)
  · rw [heldRequest_eq_none_iff]
    simp [hrec, StandingRec.reset]

theorem awake_of_receiving {s : State} {p : Port} (h : s.receiving p = true) : s.supply.state ≠ .reset := by
  simp only [State.receiving, Bool.and_eq_true, bne_iff_ne] at h
  exact h.2

section
variable {s : State} (hs : StandingSound s)
include hs

/-- In RESET the standing unit is at its reset values (R146). -/
theorem StandingSound.standing_reset (h : s.supply.state = .reset) : s.standing = StandingUnit.reset := by
  obtain ⟨-, -, -, -, -, hreset⟩ := hs
  exact hreset h

/-- An event that moves no record and no RESTORING port's count, takes no request from the arbiter, and keeps the supervisor. -/
theorem StandingSound.of_same {t : State} (hst : t.standing = s.standing) (hc : ∀ q, (t.engine q).restoreCount = (s.engine q).restoreCount)
    (hr : ∀ q, (t.engine q).request = none → (s.engine q).request = none) (hsup : t.supervisor = s.supervisor)
    (hw : t.supply.state = .reset → s.supply.state = .reset) : StandingSound t := by
  obtain ⟨hrec, hsever, hdone, hchange, hheld, hreset⟩ := hs
  have hrecord : ∀ q, t.record q = s.record q := fun q => by unfold State.record; rw [hst]
  simp only [heldRequest_eq_none_iff] at hheld
  simp only [StandingSound, heldRequest_eq_none_iff, hst, hrecord, hc, hsup]
  refine ⟨hrec, hsever, hdone, hchange, fun hn q => ?_, fun h => hreset (hw h)⟩
  obtain ⟨hns, hnd, hnc⟩ := hheld hn q
  exact ⟨fun h => hns ⟨h.1, hr q h.2⟩, hnd, hnc⟩

theorem StandingSound.setTimer (x : Timer) : StandingSound (s.setTimer x) := hs.of_same rfl (fun _ => rfl) (fun _ => id) rfl id

theorem StandingSound.setGrant (g : Requester) : StandingSound (s.setGrant g) := hs.of_same rfl (fun _ => rfl) (fun _ => id) rfl id

theorem StandingSound.of_bare {t : State} (h : t.bare = s.bare) : StandingSound t :=
  hs.of_same (bare_standing h) (fun q => by rw [bare_engine h]) (fun q => by rw [bare_engine h]; exact id)
    (congrArg (fun s => s.supervisor) h) (by rw [bare_supply h]; exact id)

/-- A supply event that keeps the supervisor and does not enter RESET. -/
theorem StandingSound.setSupply {w : SupplyWatch} (hsup : w.sup = s.supply.sup) (hw : w.state ≠ .reset) :
    StandingSound (s.setSupply w) := hs.of_same rfl (fun _ => rfl) (fun _ => id) hsup fun h => (hw h).elim

/-- An engine written with the count it had, and with a request if it had one. -/
theorem StandingSound.setEngine {p : Port} {e : Engine} (hc : e.restoreCount = (s.engine p).restoreCount)
    (hr : e.request = none → (s.engine p).request = none) : StandingSound (s.setEngine p e) := by
  refine hs.of_same rfl (fun q => ?_) (fun q hq => ?_) rfl id
  · rw [setEngine_engine]
    split
    · next hpq => subst hpq; exact hc
    · rfl
  · rw [setEngine_engine] at hq
    split at hq
    · next hpq => subst hpq; exact hr hq
    · exact hq

/-- A meaning that is sound under its condition, and otherwise changes nothing. -/
theorem StandingSound.of_ite {t u : State} {cond : Prop} [Decidable cond]
    (h : (if cond then Outcome.next u else .next s : Outcome State Fault Refusal) = .next t) (hu : cond → StandingSound u) :
    StandingSound t := by
  split at h <;> cases h
  · next hc => exact hu hc
  · exact hs

theorem StandingSound.of_idle {t : State} (h : (.next s : Outcome State Fault Refusal) = .next t) : StandingSound t := by
  cases h
  exact hs

/-! ### Grants -/

theorem StandingSound.grantPort {t : State} {p : Port} {r : Request} (h : s.grantPort p r (requestOp p r) = .next t) :
    StandingSound t := by
  by_cases ht : ∃ tag, Taken s p tag r
  · obtain ⟨tag, ht⟩ := ht
    have hawake : s.supply.state ≠ .reset := by simp [running_of_nextGrant ht.2]
    rw [grantPort_of_taken _ ht] at h
    cases h
    exact (((hs.setGrant (.port p)).ready hawake).requestOp p r).handBack p tag _ _
  · rw [grantPort_of_not_taken _ (not_exists.mp ht)] at h
    exact hs.of_idle h

theorem StandingSound.grantTimer {t : State} {i : Slot} {k : DeadlineKind} (h : s.grantTimer i k (fun s => s.expire i k) = .next t) :
    StandingSound t := by
  by_cases hg : s.timer.request = some (i, k) ∧ s.nextGrant = some .timer
  · rw [grantTimer_granted _ hg.1 hg.2] at h
    cases h
    have htaken : StandingSound s.timerTaken := (hs.setTimer _).setGrant .timer
    split
    · exact htaken.of_bare (expire_bare i _ k)
    · exact htaken
  · rw [grantTimer_of_not_granted _ hg] at h
    exact hs.of_idle h

theorem StandingSound.grantStanding {t : State} {r : StandingRequest} (h : s.grantStanding r r.port r.op = .next t) :
    StandingSound t := by
  by_cases hg : s.standing.request = some r ∧ s.nextGrant = some .standing
  · have hready := hs.ready (by simp [running_of_nextGrant hg.2])
    have hback := hready.request r hg.1
    rw [grantStanding_granted _ hg.1 hg.2] at h
    cases h
    have htaken : StandingReady (((s.setStandingRequest none).setLastPort r.port).setGrant .standing) :=
      ⟨hready.awake, hready.records, nofun⟩
    exact (htaken.standingOp rfl (by cases r <;> exact hback)).presentHeld
  · rw [grantStanding_of_not_granted _ hg] at h
    exact hs.of_idle h

/-! ### Events of the port engines -/

theorem StandingSound.badFrame {t : State} {p : Port} {frame : List Byte} (h : execBadFrame p frame s = .next t) : StandingSound t := by
  unfold execBadFrame at h
  split at h
  · exact hs.of_ite h fun hc => (hs.ready (awake_of_receiving hc)).answerFrame ..
  · exact hs.of_idle h

theorem StandingSound.checkFail {t : State} {p : Port} {frame : List Byte} (h : execCheckFail p frame s = .next t) :
    StandingSound t := by
  unfold execCheckFail at h
  split at h
  · exact hs.of_ite h fun hc => (hs.ready (awake_of_receiving hc)).answerFrame ..
  · exact hs.of_idle h

theorem StandingSound.held {t : State} {p : Port} {frame : List Byte} (h : execHeld p frame s = .next t) : StandingSound t := by
  unfold execHeld at h
  split at h
  · exact hs.of_ite h fun hc => (hs.ready (awake_of_receiving hc.1)).answerFrame ..
  · exact hs.of_idle h

theorem StandingSound.resend {t : State} {p : Port} {frame : List Byte} (h : execResend p frame s = .next t) : StandingSound t := by
  unfold execResend at h
  split at h
  · exact hs.of_ite h fun hc => (hs.ready (awake_of_receiving hc.1)).answerFrame ..
  · exact hs.of_idle h

/-- A request presented to the arbiter only takes a held sever away (R135, R152). -/
theorem StandingSound.requestPresented {t : State} {p : Port} {frame : List Byte} (h : execRequestPresented p frame s = .next t) :
    StandingSound t := by
  unfold execRequestPresented at h
  split at h
  · refine hs.of_ite h fun _ => ?_
    simp only [State.acceptBytes, setEngine_setEngine, setEngine_engine]
    exact hs.setEngine rfl nofun
  · exact hs.of_idle h

theorem StandingSound.selectPeriodStart {t : State} {p : Port} (h : execSelectPeriodStart p s = .next t) : StandingSound t := by
  unfold execSelectPeriodStart at h
  dsimp only at h
  split at h
  · split at h <;> cases h <;> exact hs.setEngine rfl id
  · exact hs.of_idle h

theorem StandingSound.selectPeriodEnd {t : State} {p : Port} (h : execSelectPeriodEnd p s = .next t) : StandingSound t := by
  unfold execSelectPeriodEnd at h
  dsimp only at h
  split at h
  · exact hs.of_idle h
  · cases h; exact hs.setEngine rfl id

/-! ### Events of the timer unit and the supply watch -/

theorem StandingSound.expiryRequest {t : State} (h : execExpiryRequest s = .next t) : StandingSound t := by
  unfold execExpiryRequest at h
  split at h
  · exact hs.of_ite h fun _ => hs.setTimer _
  · exact hs.of_idle h

/-- A freeze withdraws requests, and so may bring up a sever that waited for one; the standing unit then presents it (R135, R169). -/
theorem StandingSound.droopFreeze {t : State} (h : execDroopFreeze s = .next t) : StandingSound t := by
  unfold execDroopFreeze at h
  refine hs.of_ite h fun _ => ?_
  have hfrozen := (hs.setSupply (w := { s.supply with
    state := .frozen, settleTime := 0, lowTime := Config.droopTime, highTime := 0 }) rfl nofun).ready nofun
  exact ((((hfrozen.withdraw 0).withdraw 1).withdraw 2).withdraw 3).presentHeld

theorem StandingSound.settled : StandingSound s.settled := hs.setSupply rfl nofun

theorem StandingSound.clockPeriod : StandingSound s.clockPeriod := by
  fun_cases State.clockPeriod s with
  | case1 => exact hs.setTimer _
  | case2 => exact hs.setTimer _
  | case3 => exact hs.settled
  | case4 hst => exact hs.setSupply rfl (by simp [hst])
  | case5 => exact hs
  | case6 => exact hs

end

theorem StandingSound.exec {c : Instr} {s t : State} (hs : StandingSound s) (h : exec c s = .next t) : StandingSound t := by
  cases c with
  | nop | status | attend | create | find | read | scan | openUpdate | write | commit | discard | put | refresh | retire | watch
  | unwatch | take | restore | flush | reassign | timing => exact hs.grantPort h
  | tick => exact hs.of_ite h fun _ => hs.setTimer _
  | expiryRequest => exact hs.expiryRequest h
  | freshExpiry i => exact hs.grantTimer (k := .fresh) h
  | holdExpiry i => exact hs.grantTimer (k := .hold) h
  | sever p => exact hs.grantStanding (r := .sever p) h
  | restorationComplete p => exact hs.grantStanding (r := .restored p) h
  | standingChange p => exact hs.grantStanding (r := .change p) h
  | resend p frame => exact hs.resend h
  | badFrame p frame => exact hs.badFrame h
  | checkFail p frame => exact hs.checkFail h
  | held p frame => exact hs.held h
  | requestPresented p frame => exact hs.requestPresented h
  | selectPeriodStart p => exact hs.selectPeriodStart h
  | selectPeriodEnd p => exact hs.selectPeriodEnd h
  | powerOnReset => cases h; exact standingSound_of_reset rfl
  | pinReset => cases h; exact standingSound_of_reset rfl
  | supplyReset => exact hs.of_ite h fun _ => standingSound_of_reset rfl
  | resetRelease sup swm => exact hs.of_ite h fun hc => standingSound_of_reset (hs.standing_reset hc)
  | settleEnd => exact hs.of_ite h fun _ => hs.settled
  | droopFreeze => exact hs.droopFreeze h
  | droopRecovery => exact hs.of_ite h fun _ => hs.setSupply rfl nofun

/-- Settles O57: a clock period moves no record and no engine, and each command keeps `StandingSound` (`StandingSound.exec`): what may bring up a
request ends by presenting the first one held (`StandingReady.presentHeld`), and nothing but its grant takes away what a presented request
stands for. -/
theorem standingAlwaysSound : Obligations.StandingAlwaysSound := by
  intro s t hs h
  unfold step at h
  split at h
  · cases h
    exact hs.clockPeriod
  · next c rest _ =>
    have hs' : StandingSound { s with pending := rest } := hs
    exact hs'.exec h

end Sys2Proof.Machine
end

section
/-! SUPPORT. RESTORE where it passes its refusals, what a grant to the standing unit leaves, and STANDING_CHANGE. -/

namespace Sys2Proof.Machine

/-! ## Mute ports and STANDING notices -/

theorem setRecord_mute (s : State) (p q : Port) (x : StandingRec) :
    (s.setRecord p x).mute q = if p = q then x.severPending || x.standing == .severed else s.mute q := by
  unfold State.mute
  rw [setRecord_record]
  split <;> rfl

/-- A STANDING notice names no slot, so its offer moves no reference count (R18, R19). -/
theorem offerStanding_dir (s : State) (p : Port) (st : Standing) : (s.offerStanding p st).dir = s.dir := by
  unfold State.offerStanding State.offer
  dsimp only
  split
  · rfl
  · split <;> rfl

/-- What an offer does to a queue is seen from that queue and whether the port it is offered to is mute. -/
theorem offered_congr {s t : State} {p q : Port} (hm : t.mute p = s.mute p) (hq : t.queue q = s.queue q) (n : Notice) :
    t.offered p n q = s.offered p n q := by
  unfold State.offered
  rw [hm, hq]

/-! ## RESTORE -/

/-- The refusals of R142, all denied: a RESTORE of this port is carried out. -/
theorem restore_passes_iff {s : State} {p target : Port} :
    firstRefusal (s.refusals p (.restore (portByte target))) = .ok ↔ p = s.supervisor ∧ (s.record target).standing = .severed := by
  have hrange : ¬3 < (portByte target).toNat := by rw [← portOf_eq_none, portOf_portByte]; exact nofun
  have hsevered := any_named_port (portOf_portByte target) fun q => (s.record q).standing != .severed
  refine (firstRefusal_cons_eq_ok_iff (by decide)).trans ?_
  simp only [firstRefusal_cons_eq_ok_iff, ne_eq, reduceCtorEq, not_false_eq_true, firstRefusal_nil, hsevered]
  simp [hrange]

/-- A RESTORE that passes makes the target RESTORING with its count at 0, and reports it (R142). -/
theorem restoreOp_passed {s : State} {target : Port} (h : (s.record target).standing = .severed) :
    restoreOp s.supervisor (portByte target) s =
      (((s.setRecord target { s.record target with standing := .restoring }).setEngine target
        { s.engine target with restoreCount := 0 }).offerStanding target .restoring, .ok []) := by
  unfold restoreOp
  rw [if_neg (not_not.mpr rfl), portOf_portByte]
  dsimp only
  rw [if_neg (not_not.mpr h)]

/-- The supervisor port is never SEVERED: its score stays below 255 (R131). -/
theorem StandingSound.supervisor_not_severed {s : State} (hs : StandingSound s) : (s.record s.supervisor).standing ≠ .severed := by
  obtain ⟨hrec, -⟩ := hs
  obtain ⟨-, -, hlost, -, hsup⟩ := hrec s.supervisor
  intro hsev
  have := (hlost (.inl hsev)).1
  have := hsup (by simp)
  omega

/-- Settles O41: the operation moves the target's record and count and offers the notice (`restoreOp_passed`); the response is then handed back to
the supervisor port, which is another one (`StandingSound.supervisor_not_severed`). -/
theorem restoreTaken : Obligations.RestoreTaken := by
  intro s p target tag hs hp
  obtain ⟨ht, hr⟩ := hp
  obtain ⟨rfl, hsev⟩ := restore_passes_iff.mp hr
  replace ht : Taken s s.supervisor tag (.restore (portByte target)) := ht
  have hne : target ≠ s.supervisor := fun hc => hs.supervisor_not_severed (hc ▸ hsev)
  set v := (s.setRecord target { s.record target with standing := .restoring }).setEngine target
    { s.engine target with restoreCount := 0 } with hv
  set u := (v.setGrant (.port s.supervisor)).offerStanding target .restoring with hu
  have hop : requestOp s.supervisor (.restore (portByte target)) (s.setGrant (.port s.supervisor)) = (u, .ok []) :=
    restoreOp_passed (s := s.setGrant (.port s.supervisor)) hsev
  have hbare : u.bare = (v.setGrant (.port s.supervisor)).bare := offerStanding_bare ..
  obtain ⟨ha, hd⟩ := handBack_answered u s.supervisor tag .restore (.ok []) (bare_lastGrant hbare)
  have hengines := bare_engine hbare
  have hstanding := bare_standing hbare
  have hsupply := bare_supply hbare
  have hpending := bare_pending hbare
  have hanswer := ha.of_same (s := v) hengines hstanding hsupply hpending
  obtain ⟨-, -, hothers, -⟩ := id hanswer
  obtain ⟨hengine, hrecord⟩ := hothers target hne
  have hqueues : QueuesAre u fun q => (s.offered s.supervisor (.standing target .restoring false) q).1 := fun q => by
    have hmute : v.mute s.supervisor = s.mute s.supervisor := by rw [hv, setEngine_mute, setRecord_mute, if_neg hne]
    rw [hu, State.offerStanding, offer_queuesAre]
    exact congrArg Prod.fst (offered_congr hmute rfl _)
  refine ⟨_, ?_, rfl, hne, ?_, ?_, hanswer, ?_, ?_, hd.filtersKept fun q => ?_, hd.queuesAre hqueues⟩
  · exact (exec_taken rfl s).trans ((grantPort_of_taken _ ht).trans (by rw [hop]; rfl))
  · rw [hrecord]; simp [hv]
  · rw [hengine]; simp [hv]
  · rw [hd.1, hu, offerStanding_dir]; rfl
  · rw [hd.2.2, hu, offerStanding_timer]; rfl
  · rw [hu, offerStanding_filters]; rfl

/-! ## Grants to the standing unit -/

/-- The standing unit's grant for port `p`, as its operation finds it: nothing presented, the rotation at `p` (R25, R135). -/
def State.standingTaken (s : State) (p : Port) : State := ((s.setStandingRequest none).setLastPort p).setGrant .standing

/-- A granted operation that moves, of the ports, port `p`'s record and engine alone; the directory, notices and timer are left as it leaves
them. -/
theorem standing_granted {s : State} {r : StandingRequest} {p : Port} {op : State → State} {x : StandingRec} {e : Engine}
    (hr : s.standing.request = some r) (hg : s.nextGrant = some .standing)
    (h : (op (s.standingTaken p)).bare = (((s.standingTaken p).setRecord p x).setEngine p e).bare) :
    ∃ t, s.grantStanding r p op = .next t ∧ StandingGranted s t p ∧ t.record p = x ∧ t.engine p = e ∧
      DirectoryKept (op (s.standingTaken p)) t := by
  have hengine := bare_engine h
  have hrecord := bare_record h
  have hstanding := bare_standing h
  have hsupply := bare_supply h
  have hpending := bare_pending h
  refine ⟨_, grantStanding_granted op hr hg, ⟨?_, ?_, ?_, fun q hq => ⟨?_, ?_⟩, ?_, ?_⟩, ?_, ?_, ?_, ?_, ?_⟩
  · exact (presentHeld_lastGrant _).trans (bare_lastGrant h)
  · exact (presentHeld_lastPort _).trans (congrArg StandingUnit.lastPort hstanding)
  · rw [presentHeld_request]
    exact congrArg (Option.or · _) (congrArg StandingUnit.request hstanding)
  · exact (presentHeld_engine _ q).trans ((hengine q).trans (by rw [setEngine_engine, if_neg (Ne.symm hq)]; rfl))
  · exact (presentHeld_record _ q).trans ((hrecord q).trans (by rw [setEngine_record, setRecord_record, if_neg (Ne.symm hq)]; rfl))
  · exact (presentHeld_supply _).trans hsupply
  · exact (presentHeld_pending _).trans hpending
  · exact (presentHeld_record _ p).trans ((hrecord p).trans (by simp))
  · exact (presentHeld_engine _ p).trans ((hengine p).trans (by simp))
  · exact presentHeld_dir _
  · exact presentHeld_notices _
  · exact presentHeld_timer _

/-! ## STANDING_CHANGE -/

/-- Settles O44: the operation clears report pending and offers one notice (`reportStanding_bare`, `offer_queuesAre`). -/
theorem standingReported : Obligations.StandingReported := by
  intro s p hr hg
  set b := s.standingTaken p with hb
  have hbare : (b.reportStanding p).bare =
      ((b.setRecord p { s.record p with reportPending := false }).setEngine p (s.engine p)).bare :=
    (reportStanding_bare p b).trans (congrArg State.bare (setEngine_self (b.setRecord p _) p).symm)
  obtain ⟨t, he, hgranted, hrec, hengine, hd⟩ := standing_granted (op := fun s => s.reportStanding p) hr hg hbare
  refine ⟨t, he, hgranted, hrec, hengine, ?_, ?_, hd.filtersKept fun q => ?_, hd.queuesAre fun q => ?_⟩
  · exact hd.1.trans (offerStanding_dir ..)
  · exact hd.2.2.trans (offerStanding_timer ..)
  · exact (offerStanding_filters ..).trans rfl
  · have hmute : (b.setRecord p { s.record p with reportPending := false }).mute s.supervisor = s.mute s.supervisor := by
      rw [setRecord_mute]
      split
      · next hp => subst hp; rfl
      · rfl
    exact (offer_queuesAre _ _ _ q).trans (congrArg Prod.fst (offered_congr hmute rfl _))

end Sys2Proof.Machine
end

section
/-! SUPPORT. OWNER notices offered for one point after another, and STANDING last (R79, R138, R144); the points, counts and deadlines that a sever
leaves. -/

namespace Sys2Proof.Machine

/-! ## OWNER for one point after another -/

/-- What routing an OWNER event on the point looks at, of the point (R68, R73). -/
def Point.routing (pt : Point) : Key × Port × PortSet := (pt.key, pt.owner, pt.readers)

theorem ownerNotices_congr {s t : State} {l : List Slot} {r : Port} (hm : t.mute r = s.mute r) (hf : t.filters r = s.filters r)
    (hp : ∀ i ∈ l, (t.point i).map Point.routing = (s.point i).map Point.routing) (o : Option Port) :
    t.ownerNotices l o r = s.ownerNotices l o r := by
  refine List.filterMap_congr fun i hi => ?_
  have h := hp i hi
  cases hs : s.point i with
  | none => rw [hs, Option.map_none, Option.map_eq_none_iff] at h; rw [h]; rfl
  | some pt =>
    rw [hs, Option.map_some, Option.map_eq_some_iff] at h
    obtain ⟨qt, hqt, hrouting⟩ := h
    simp only [Point.routing, Prod.mk.injEq] at hrouting
    obtain ⟨hkey, howner, hreaders⟩ := hrouting
    rw [hqt, Option.bind_some, Option.bind_some, routeFilter_congr s t pt qt .owner r hm hf howner hreaders hkey, hkey]

/-- R73 routes nothing to a mute port. -/
theorem ownerNotices_of_mute {s : State} {r : Port} (h : s.mute r = true) (l : List Slot) (o : Option Port) :
    s.ownerNotices l o r = [] := by
  rw [State.ownerNotices, List.filterMap_eq_nil_iff]
  intro i _
  cases s.point i with
  | none => rfl
  | some pt => simp [State.routeFilter, h]

theorem standingNotices_of_mute {s : State} {r : Port} (h : s.mute r = true) (p : Port) (st : Standing) :
    s.standingNotices p st r = [] := by
  simp [State.standingNotices, h]

theorem standingNotices_congr {s t : State} {r : Port} (hm : t.mute r = s.mute r) (hsup : t.supervisor = s.supervisor) (p : Port)
    (st : Standing) : t.standingNotices p st r = s.standingNotices p st r := by
  unfold State.standingNotices
  rw [hm, hsup]

/-- A turn for each slot offers every port the OWNER notice, with owner field `o`, that R73 routes to it, and moves nothing that routing looks
at. -/
structure OffersOwner (o : Option Port) (f : State → Slot → State) : Prop where
  queue : ∀ s i r, (f s i).queue r = (offerMany (s.queue r) (s.ownerNotices [i] o r)).1
  mute : ∀ s i r, (f s i).mute r = s.mute r
  filters : ∀ s i r, (f s i).filters r = s.filters r
  supervisor : ∀ s i, (f s i).supervisor = s.supervisor
  routing : ∀ s i j, ((f s i).point j).map Point.routing = (s.point j).map Point.routing

/-- The queues after the turns of the slots `l`, in their order (R79). -/
theorem OffersOwner.fold_queue {o : Option Port} {f : State → Slot → State} (hf : OffersOwner o f) (l : List Slot) (s : State) (r : Port) :
    (l.foldl f s).queue r = (offerMany (s.queue r) (s.ownerNotices l o r)).1 := by
  induction l generalizing s with
  | nil => rfl
  | cons i l ih =>
    have hsplit : s.ownerNotices (i :: l) o r = s.ownerNotices [i] o r ++ s.ownerNotices l o r :=
      List.filterMap_append (l := [i]) (l' := l)
    rw [List.foldl_cons, ih, ownerNotices_congr (hf.mute s i r) (hf.filters s i r) (fun j _ => hf.routing s i j), hf.queue, hsplit,
      offerMany_append]

/-- The queues once STANDING is offered to the supervisor port after them (R138, R144). -/
theorem OffersOwner.queues {o : Option Port} {f : State → Slot → State} (hf : OffersOwner o f) (l : List Slot) (s : State) (p : Port)
    (st : Standing) :
    QueuesAre ((l.foldl f s).offerStanding p st) fun r =>
      (offerMany (s.queue r) (s.ownerNotices l o r ++ s.standingNotices p st r)).1 := by
  intro r
  have hm := foldl_keep (fun s => s.mute r) (fun s i => hf.mute s i r) l s
  have hsup := foldl_keep (fun s => s.supervisor) hf.supervisor l s
  have hlast : ∀ u : State, (u.offerStanding p st).queue r = (offerMany (u.queue r) (u.standingNotices p st r)).1 := fun u => by
    rw [State.offerStanding, offer_queuesAre]
    unfold State.offered State.standingNotices
    by_cases hr : r = u.supervisor
    · subst hr
      cases u.mute u.supervisor <;> simp [offerMany_single]
    · simp [hr]
  dsimp only
  rw [hlast, standingNotices_congr hm hsup, hf.fold_queue, offerMany_append]

theorem routeOwner_queue (o : Option Port) (s : State) (i : Slot) (r : Port) :
    (State.routeOwner o s i).queue r = (offerMany (s.queue r) (s.ownerNotices [i] o r)).1 := by
  cases h : s.point i with
  | none => simp [State.routeOwner, State.ownerNotices, h]
  | some pt =>
    have hnotices : s.ownerNotices [i] o r = ((s.routeFilter pt .owner r).map (pt.ownerNotice i o)).toList := by
      unfold State.ownerNotices
      cases hr : s.routeFilter pt .owner r <;> simp [h, hr, Point.ownerNotice]
    rw [routeOwner_eq h, hnotices]
    exact (route_delivers h .owner fun _ => rfl).queues r

theorem routeOwner_routing (o : Option Port) (s : State) (i j : Slot) :
    ((State.routeOwner o s i).point j).map Point.routing = (s.point j).map Point.routing := by
  obtain ⟨n, hn⟩ := routeOwner_point o s i j
  rw [hn, Option.map_map]
  rfl

theorem routeOwner_offersOwner (o : Option Port) : OffersOwner o (State.routeOwner o) :=
  ⟨routeOwner_queue o, fun s i r => routeOwner_mute s o i r, fun s i r => routeOwner_filters s o i r,
    fun s i => routeOwner_supervisor s o i, routeOwner_routing o⟩

/-- A restored port's point is routed by the same key, owner and readers once it is its own again (R144, step 2). -/
theorem adopt_offersOwner (p : Port) : OffersOwner (some p) (State.adopt p) := by
  have hrouting : ∀ (s : State) (i : Slot) (pt : Point), s.point i = some pt → ∀ j,
      ((s.setPoint i (some { pt with orphaned := false })).point j).map Point.routing = (s.point j).map Point.routing := by
    intro s i pt h j
    rw [setPoint_point]
    split
    · next hij => subst hij; rw [h]; rfl
    · rfl
  refine ⟨fun s i r => ?_, fun s i r => ?_, fun s i r => ?_, fun s i => ?_, fun s i j => ?_⟩ <;> unfold State.adopt <;> split
  · next h => simp [State.ownerNotices, h]
  · next pt h =>
    have hsame := ownerNotices_congr (s := s) (t := s.setPoint i (some { pt with orphaned := false })) (r := r) (l := [i]) rfl rfl
      (fun j _ => hrouting s i pt h j) (some p)
    rw [routeOwner_queue, setPoint_queue, hsame]
  · rfl
  · simp
  · rfl
  · simp
  · rfl
  · simp
  · rfl
  · next pt h => rw [routeOwner_routing, hrouting s i pt h]

/-! ## The points that turns for other slots leave -/

/-- A fold of turns that each leave every other slot leaves the slots that had no turn. -/
theorem foldl_otherSlots {f : State → Slot → State} (hf : ∀ s i, OtherSlotsKept s (f s i) i) {l : List Slot} {j : Slot} (hj : j ∉ l)
    (s : State) : (l.foldl f s).point j = s.point j := by
  induction l generalizing s with
  | nil => rfl
  | cons i l ih =>
    obtain ⟨hji, hjl⟩ := not_or.mp (mt List.mem_cons.mpr hj)
    rw [List.foldl_cons, ih hjl, hf s i j hji]

theorem routeOwner_otherSlotsKept (o : Option Port) (s : State) (i : Slot) : OtherSlotsKept s (State.routeOwner o s i) i := by
  cases h : s.point i with
  | none => unfold State.routeOwner; rw [h]; exact fun _ _ => rfl
  | some pt => rw [routeOwner_eq h]; exact (route_delivers h .owner fun _ => rfl).others

theorem adopt_otherSlotsKept (p : Port) (s : State) (i : Slot) : OtherSlotsKept s (State.adopt p s i) i := by
  unfold State.adopt
  split
  · exact fun _ _ => rfl
  · exact (setPoint_otherSlotsKept s i _).trans (routeOwner_otherSlotsKept _ _ i)

/-- Routing OWNER for any slots moves the reference counts alone. -/
theorem routeOwners_point (o : Option Port) (l : List Slot) (s : State) (j : Slot) :
    ∃ n, (l.foldl (State.routeOwner o) s).point j = (s.point j).map fun pt => { pt with refs := pt.refs + n } := by
  induction l generalizing s with
  | nil => exact ⟨0, Option.map_id'.symm⟩
  | cons i l ih =>
    obtain ⟨n, hn⟩ := routeOwner_point o s i j
    obtain ⟨m, hm⟩ := ih (State.routeOwner o s i)
    refine ⟨n + m, ?_⟩
    rw [List.foldl_cons, hm, hn, Option.map_map]
    exact congrArg (fun f => (s.point j).map f) (funext fun pt => by simp [Nat.add_assoc])

/-! ## The points and deadlines that a sever leaves -/

theorem mem_openSlots {s : State} {p : Port} {i : Slot} :
    i ∈ s.openSlots p ↔ (s.holds i fun pt => pt.owner == p && pt.updateOpen) = true := by
  unfold State.openSlots State.holds
  cases h : s.point i <;> simp [h, mem_allSlots]

theorem DeadlinesAre.of_eq {s t : State} {l m : List Deadline} (h : DeadlinesAre s t l) (hlm : m = l) : DeadlinesAre s t m := hlm ▸ h

/-- The HOLD entries of the slots `l` leave the list, and no other (R138, step 2). -/
theorem dropUpdates_fold_timer {l : List Slot} {s : State} (h : ∀ i ∈ l, (s.point i).isSome) :
    DeadlinesAre s (l.foldl State.dropUpdate s) (s.timer.deadlines.filter fun d => !(d.kind == .hold && decide (d.slot ∈ l))) := by
  induction l generalizing s with
  | nil => simp [DeadlinesAre]
  | cons i l ih =>
    obtain ⟨hi, hl⟩ := List.forall_mem_cons.mp h
    have hturn : DeadlinesAre s (s.dropUpdate i) (s.timer.deadlines.filter fun d => !d.names i .hold) := by
      obtain ⟨pt, hpt⟩ := Option.isSome_iff_exists.mp hi
      unfold State.dropUpdate
      rw [hpt]
      exact disarm_timer ..
    have hrest := ih (s := s.dropUpdate i) fun j hj => by
      have hsome := hl j hj
      rw [dropUpdate_point]
      split <;> simpa using hsome
    rw [List.foldl_cons]
    have hboth := hturn.trans hrest
    rw [hturn, List.filter_filter] at hboth
    refine hboth.of_eq (List.filter_congr fun d _ => ?_)
    by_cases hk : d.kind = .hold <;> by_cases hs : d.slot = i <;> simp [Deadline.names, hk, hs]

/-- The severed port's open updates have left the deadline list (R138, step 2). -/
theorem severPoints_deadlines (s : State) (p : Port) :
    DeadlinesAre s (s.severPoints p) (s.timer.deadlines.filter fun d =>
      !(d.kind == .hold && s.holds d.slot fun pt => pt.owner == p && pt.updateOpen)) := by
  have horphan : ∀ s i, (State.orphan s i).timer = s.timer := fun s i => by unfold State.orphan; split <;> rfl
  have hsome : ∀ i ∈ s.openSlots p, (s.point i).isSome := fun i hi => by
    rw [mem_openSlots, State.holds] at hi
    cases h : s.point i with
    | none => simp [h] at hi
    | some pt => rfl
  unfold DeadlinesAre State.severPoints
  rw [foldl_keep (fun s => s.timer) horphan]
  refine (dropUpdates_fold_timer hsome).of_eq (List.filter_congr fun d _ => ?_)
  cases hh : s.holds d.slot fun pt => pt.owner == p && pt.updateOpen <;> simp [mem_openSlots, hh]

theorem severPoints_queue (s : State) (p q : Port) : (s.severPoints p).queue q = s.queue q := by
  obtain ⟨table, timer, h⟩ := severPoints_eq p s
  rw [h]
  rfl

/-- Closing the port's updates leaves its living points its living points. -/
theorem dropUpdates_livingSlots (s : State) (p : Port) : (s.dropUpdates p).livingSlots p = s.livingSlots p := by
  refine List.filter_congr fun i _ => ?_
  rw [dropUpdates_point]
  cases s.point i with
  | none => rfl
  | some pt => by_cases ho : pt.owner = p <;> simp [ho]

/-- A sever moves no point's key, owner, readers or state (R138). -/
theorem severed_keeps (pt : Point) (p : Port) : (pt.severed p).routing = pt.routing ∧ (pt.severed p).state = pt.state := by
  fun_cases Point.severed pt p <;> exact ⟨rfl, rfl⟩

/-- A slot whose point is not RETIRING is never freed as entries leave (R20). -/
theorem drained_of_living {pt : Point} (h : pt.state ≠ .retiring) (k : Nat) :
    drained (some pt) k = some { pt with refs := pt.refs - k } := by
  simp [drained, h]

end Sys2Proof.Machine
end

section
/-! SUPPORT. The standing unit's two operations on a port's points, each in the order of its rule: SEVER (R138) and RESTORATION_COMPLETE (R144). -/

namespace Sys2Proof.Machine

/-! ## SEVER -/

/-- Steps 1 to 6 of R138: the port severed, its points with it, its queue flushed, its filters, hold and attention enable cleared. -/
def State.severSilently (s : State) (p : Port) : State := (((s.setRecord p (s.record p).severed).severPoints p).flushQueue p).clearPort p

/-- A sever is its silent steps, then the notices (R138, steps 7 and 8). -/
theorem severPort_eq_notices (s : State) (p : Port) :
    s.severPort p = ((s.livingSlots p).foldl (State.routeOwner none) (s.severSilently p)).offerStanding p .severed := by
  have hliving : ((s.setRecord p (s.record p).severed).dropUpdates p).livingSlots p = s.livingSlots p :=
    dropUpdates_livingSlots (s.setRecord p (s.record p).severed) p
  rw [severPort_eq, hliving]
  rfl

section
variable (s : State) (p : Port)

theorem clearPort_dir : (s.clearPort p).dir = s.dir := rfl

theorem clearPort_point (i : Slot) : (s.clearPort p).point i = s.point i := rfl

theorem clearPort_openUpdates (q : Port) : (s.clearPort p).openUpdates q = s.openUpdates q := rfl

theorem clearPort_mute (q : Port) : (s.clearPort p).mute q = s.mute q := rfl

theorem clearPort_timer : (s.clearPort p).timer = s.timer := rfl

theorem clearPort_supervisor : (s.clearPort p).supervisor = s.supervisor := rfl

theorem clearPort_filters (q : Port) :
    (s.clearPort p).filters q = if p = q then Vector.replicate 8 Filter.unused else s.filters q := setFilters_filters ..

theorem severSilently_point (i : Slot) :
    (s.severSilently p).point i = drained ((s.point i).map fun pt => pt.severed p) (namedIn (s.queue p) i) := by
  rw [State.severSilently, clearPort_point, flushQueue_point, severPoints_point, severPoints_queue, setRecord_point, setRecord_queue]

theorem severSilently_queue (q : Port) : (s.severSilently p).queue q = if q = p then [] else s.queue q := by
  rw [State.severSilently, clearPort_queue, flushQueue_queue, severPoints_queue, setRecord_queue]
  simp only [eq_comm]

theorem severSilently_filters (q : Port) :
    (s.severSilently p).filters q = if q = p then Vector.replicate 8 Filter.unused else s.filters q := by
  obtain ⟨table, timer, h⟩ := severPoints_eq p (s.setRecord p (s.record p).severed)
  rw [State.severSilently, clearPort_filters, flushQueue_filters, h]
  simp only [eq_comm (a := p)]
  rfl

theorem severSilently_mute (q : Port) : (s.severSilently p).mute q = if q = p then true else s.mute q := by
  obtain ⟨table, timer, h⟩ := severPoints_eq p (s.setRecord p (s.record p).severed)
  rw [State.severSilently, clearPort_mute, flushQueue_mute, h]
  refine (setRecord_mute s p q _).trans ?_
  simp only [eq_comm (a := p)]
  rfl

theorem severSilently_counts : CountIs s (s.severSilently p) p 0 := by
  obtain ⟨table, timer, h⟩ := severPoints_eq p (s.setRecord p (s.record p).severed)
  have hcount : ∀ q, (s.severSilently p).openUpdates q = (s.setOpenUpdates p 0).openUpdates q := fun q => by
    rw [State.severSilently, clearPort_openUpdates, flushQueue_openUpdates, h]
    rfl
  obtain ⟨hport, hothers⟩ := setOpenUpdates_countIs s p 0
  exact ⟨(hcount p).trans hport, fun q hq => (hcount q).trans (hothers q hq)⟩

theorem severSilently_freeGranules : (s.severSilently p).dir.freeGranules = s.dir.freeGranules := by
  obtain ⟨table, timer, h⟩ := severPoints_eq p (s.setRecord p (s.record p).severed)
  rw [State.severSilently, clearPort_dir, flushQueue_freeGranules, h]
  rfl

theorem severSilently_deadlines :
    DeadlinesAre s (s.severSilently p) (s.timer.deadlines.filter fun d =>
      !(d.kind == .hold && s.holds d.slot fun pt => pt.owner == p && pt.updateOpen)) := by
  have hpoints := severPoints_deadlines (s.setRecord p (s.record p).severed) p
  unfold DeadlinesAre at *
  rw [State.severSilently, clearPort_timer, flushQueue_timer, hpoints]
  rfl

/-- The index has lost the entries of the RETIRING slots that the flush freed (R12, R20). -/
theorem severSilently_index : IndexDrained s (s.severSilently p) := by
  intro e
  obtain ⟨table, timer, h⟩ := severPoints_eq p (s.setRecord p (s.record p).severed)
  set v := (s.setRecord p (s.record p).severed).severPoints p with hv
  have hindex : v.dir.index = s.dir.index := by rw [h]; rfl
  have hsome : (v.point e.2).isSome = (s.point e.2).isSome := by
    rw [hv, severPoints_point, Option.isSome_map]
    rfl
  have hflush := releaseRefs_index (v.setQueue p []) (v.queue p) e
  rw [setQueue_index, setQueue_point, hindex, hsome] at hflush
  rw [State.severSilently, clearPort_dir, clearPort_point]
  exact hflush

/-- The notices of a sever find the living points, the other ports' filters and standings as they were; the severed port is offered none (R138,
R141). -/
theorem severSilently_notices (q : Port) :
    (s.severSilently p).ownerNotices (s.livingSlots p) none q ++ (s.severSilently p).standingNotices p .severed q =
      if q = p then [] else s.ownerNotices (s.livingSlots p) none q ++ s.standingNotices p .severed q := by
  have hmute := severSilently_mute s p q
  split
  · next hq =>
    rw [if_pos hq] at hmute
    rw [ownerNotices_of_mute hmute, standingNotices_of_mute hmute]
    rfl
  · next hq =>
    rw [if_neg hq] at hmute
    have hsup : (s.severSilently p).supervisor = s.supervisor := by
      obtain ⟨table, timer, h⟩ := severPoints_eq p (s.setRecord p (s.record p).severed)
      rw [State.severSilently, clearPort_supervisor, flushQueue_supervisor, h]
      rfl
    rw [standingNotices_congr hmute hsup,
      ownerNotices_congr hmute ((severSilently_filters s p q).trans (if_neg hq)) fun i hi => ?_]
    obtain ⟨pt, hpt, -, hst⟩ := mem_livingSlots.mp hi
    obtain ⟨hrouting, hstate⟩ := severed_keeps pt p
    rw [severSilently_point, hpt, Option.map_some, drained_of_living (hstate ▸ hst)]
    exact congrArg some hrouting

/-- The notices of a sever keep what offers and the routing of OWNER keep. -/
theorem severPort_keep {β : Type} (g : State → β) (hroute : ∀ s i, g (State.routeOwner none s i) = g s)
    (hlast : ∀ s p st, g (State.offerStanding s p st) = g s) : g (s.severPort p) = g (s.severSilently p) := by
  rw [severPort_eq_notices, hlast, foldl_keep g hroute]

theorem severPort_point_eq (i : Slot) :
    (s.severPort p).point i = ((s.livingSlots p).foldl (State.routeOwner none) (s.severSilently p)).point i := by
  rw [severPort_eq_notices, offerStanding_point]

/-- The notices raise counts alone (R19). -/
theorem severPort_point (i : Slot) :
    ∃ n, (s.severPort p).point i = ((s.severSilently p).point i).map fun pt => { pt with refs := pt.refs + n } := by
  rw [severPort_point_eq]
  exact routeOwners_point ..

/-- OWNER is offered for living points alone, so a RETIRING slot is left as the flush left it (R138). -/
theorem severPort_point_retiring {i : Slot} {pt : Point} (h : s.point i = some pt) (hst : pt.state = .retiring) :
    (s.severPort p).point i = drained (some (pt.severed p)) (namedIn (s.queue p) i) := by
  have hnot : i ∉ s.livingSlots p := fun hi => by
    obtain ⟨pt', hpt', -, hst'⟩ := mem_livingSlots.mp hi
    cases h.symm.trans hpt'
    exact hst' hst
  rw [severPort_point_eq, foldl_otherSlots (routeOwner_otherSlotsKept none) hnot, severSilently_point, h]
  rfl

theorem severPort_point_living {i : Slot} {pt : Point} (h : s.point i = some pt) (hst : pt.state ≠ .retiring) :
    ∃ n, (s.severPort p).point i = some { pt.severed p with refs := n } := by
  obtain ⟨n, hn⟩ := severPort_point s p i
  obtain ⟨-, hstate⟩ := severed_keeps pt p
  rw [hn, severSilently_point, h, Option.map_some, drained_of_living (hstate ▸ hst)]
  exact ⟨_, rfl⟩

theorem severPort_point_free {i : Slot} (h : s.point i = none) : (s.severPort p).point i = none := by
  obtain ⟨n, hn⟩ := severPort_point s p i
  rw [hn, severSilently_point, h]
  rfl

theorem severPort_index : IndexDrained s (s.severPort p) := by
  intro e
  obtain ⟨n, hn⟩ := severPort_point s p e.2
  rw [severPort_keep s p (fun s => s.dir.index) (routeOwner_index · none ·) offerStanding_index, hn, Option.isNone_map]
  exact severSilently_index s p e

theorem severPort_counts : CountIs s (s.severPort p) p 0 := by
  have hcount := fun q => severPort_keep s p (fun s => s.openUpdates q) (routeOwner_openUpdates · none · q) (offerStanding_openUpdates · · · q)
  obtain ⟨hport, hothers⟩ := severSilently_counts s p
  exact ⟨(hcount p).trans hport, fun q hq => (hcount q).trans (hothers q hq)⟩

theorem severPort_queues :
    QueuesAre (s.severPort p) fun q => if q = p then [] else
      (offerMany (s.queue q) (s.ownerNotices (s.livingSlots p) none q ++ s.standingNotices p .severed q)).1 := by
  intro q
  rw [severPort_eq_notices, (routeOwner_offersOwner none).queues (s.livingSlots p) (s.severSilently p) p .severed q]
  dsimp only
  rw [severSilently_queue, severSilently_notices]
  split <;> rfl

end

/-- Settles O42: the ports' part of the sever is `severPort_bare`; its silent steps give the points, counts, filters, deadlines and index, and its
notices, which raise the living points' counts alone, the queues (`severPort_queues`). -/
theorem severTaken : Obligations.SeverTaken := by
  intro s p hr hg _
  set b := s.standingTaken p with hb
  obtain ⟨t, he, hgranted, hrec, hengine, hd⟩ := standing_granted (op := fun s => s.severPort p) hr hg (severPort_bare p b)
  refine ⟨t, he, hgranted, hrec, hengine, fun i pt h hst => ?_, fun i pt h hst => ?_, fun i h => ?_, fun e => ?_, ?_,
    hd.countIs (severPort_counts b p), fun q => ?_, hd.queuesAre (severPort_queues b p), hd.deadlinesAre ?_⟩
  · exact (hd.point i).trans (severPort_point_retiring b p h hst)
  · rw [hd.point]
    exact severPort_point_living b p h hst
  · exact (hd.point i).trans (severPort_point_free b p h)
  · rw [hd.1, hd.point]
    exact severPort_index b p e
  · rw [hd.1]
    exact (severPort_keep b p (fun s => s.dir.freeGranules) (routeOwner_freeGranules · none ·) offerStanding_freeGranules).trans
      (severSilently_freeGranules b p)
  · have hfilters : t.filters q = (b.severPort p).filters q := congrArg (fun n => (n.get q).filters) hd.2.1
    exact hfilters.trans ((severPort_keep b p (fun s => s.filters q) (routeOwner_filters · none · q)
      (offerStanding_filters · · · q)).trans (severSilently_filters b p q))
  · exact (severPort_keep b p (fun s => s.timer) (routeOwner_timer · none ·) offerStanding_timer).trans (severSilently_deadlines b p)

/-! ## RESTORATION_COMPLETE -/

theorem adopt_keep {β : Type} (g : State → β) (hpoint : ∀ s i x, g (State.setPoint s i x) = g s)
    (hroute : ∀ s o i, g (State.routeOwner o s i) = g s) (p : Port) (s : State) (i : Slot) : g (State.adopt p s i) = g s := by
  unfold State.adopt
  split
  · rfl
  · exact (hroute ..).trans (hpoint ..)

/-- Settles O43: each orphaned point is adopted and no other (`adopts_point`, `adopt_otherSlotsKept`), with the notices of
`OffersOwner.queues`; the port was not mute while RESTORING, and is not afterwards. -/
theorem restorationCompleted : Obligations.RestorationCompleted := by
  intro s p hr hg hst
  set b := s.standingTaken p with hb
  obtain ⟨t, he, hgranted, hrec, hengine, hd⟩ := standing_granted (op := fun s => s.restorePort p) hr hg (restorePort_bare p b)
  set v := (b.setRecord p { s.record p with standing := .good, score := 0, reportPending := false }).setEngine p
    { s.engine p with restoreCount := 0 } with hv
  replace hd : DirectoryKept (((s.orphanSlots p).foldl (State.adopt p) v).offerStanding p .good) t := hd
  have hkeep := fun {β : Type} (g : State → β) hpoint hroute =>
    foldl_keep g (adopt_keep g hpoint hroute p) (s.orphanSlots p) v
  have hpoint : ∀ i, t.point i = ((s.orphanSlots p).foldl (State.adopt p) v).point i := fun i =>
    (hd.point i).trans (offerStanding_point ..)
  have hmute : ∀ q, v.mute q = s.mute q := fun q => by
    rw [hv, setEngine_mute, setRecord_mute]
    split
    · next hp => subst hp; unfold State.mute; rw [hst]; rfl
    · rfl
  refine ⟨t, he, hgranted, hrec, hengine, fun i pt h ho horph => ?_, fun i h => ?_, ⟨?_, ?_⟩, fun q => ?_, hd.filtersKept fun q => ?_, ?_,
    hd.queuesAre fun q => ?_⟩
  · obtain ⟨n, hn⟩ := adopts_point p (s.orphanSlots p) v i
    have hmem : i ∈ s.orphanSlots p := mem_orphanSlots.mpr ⟨pt, h, ho, horph⟩
    refine ⟨pt.refs + n, ?_⟩
    rw [hpoint, hn, show v.point i = some pt from h]
    simp [hmem]
  · have hnot : i ∉ s.orphanSlots p := fun hi => by
      obtain ⟨pt, hpt, ho, horph⟩ := mem_orphanSlots.mp hi
      simp [State.holds, hpt, ho, horph] at h
    rw [hpoint, foldl_otherSlots (adopt_otherSlotsKept p) hnot]
    rfl
  · rw [hd.1, offerStanding_index]
    exact hkeep (fun s => s.dir.index) (fun _ _ _ => rfl) routeOwner_index
  · rw [hd.1, offerStanding_freeGranules]
    exact hkeep (fun s => s.dir.freeGranules) (fun _ _ _ => rfl) routeOwner_freeGranules
  · exact (hd.openUpdates q).trans ((offerStanding_openUpdates ..).trans
      (hkeep (fun s => s.openUpdates q) (fun _ _ _ => rfl) (routeOwner_openUpdates · · · q)))
  · exact (offerStanding_filters ..).trans (hkeep (fun s => s.filters q) (fun _ _ _ => rfl) (routeOwner_filters · · · q))
  · exact hd.2.2.trans ((offerStanding_timer ..).trans (hkeep (fun s => s.timer) (fun _ _ _ => rfl) routeOwner_timer))
  · refine ((adopt_offersOwner p).queues (s.orphanSlots p) v p .good q).trans ?_
    dsimp only
    rw [standingNotices_congr (hmute q) rfl, ownerNotices_congr (hmute q) rfl fun _ _ => rfl]
    rfl

end Sys2Proof.Machine
end

section
/-! SUPPORT. The port engines in the places R149 gives them: the length of every answer's body, what an answer leaves of an engine, and the writes
and outcomes that keep `LinkSound`. -/

namespace Sys2Proof.Machine

/-! ## Bodies -/

theorem findRecord_length (i : Slot) (pt : Point) (p : Port) : (findRecord i pt p).length = 14 := by
  unfold findRecord versionField
  split <;> rfl

theorem scanEntries_length_le (p : Port) (s : State) (l : List (Key × Slot)) : (scanEntries p s l).length ≤ 7 * l.length := by
  induction l with
  | nil => exact Nat.zero_le _
  | cons e l ih =>
    unfold scanEntries at ih ⊢
    rw [List.flatMap_cons, List.length_append, List.length_cons]
    refine (Nat.add_le_add ?_ ih).trans (by omega : 7 + 7 * l.length ≤ _)
    cases s.point e.2 with
    | none => exact Nat.zero_le _
    | some pt =>
      show (scanEntry e.1 e.2 pt p).length ≤ 7
      unfold scanEntry versionField
      split <;> exact Nat.le_refl _

theorem notice_encode_length (n : Notice) : n.encode.length = 8 := by cases n <;> rfl

theorem flatMap_encode_length (l : List Notice) : (l.flatMap Notice.encode).length = 8 * l.length := by
  induction l with
  | nil => rfl
  | cons n l ih =>
    rw [List.flatMap_cons, List.length_append, ih, notice_encode_length, List.length_cons]
    omega

theorem findOp_body_le (p : Port) (target : FindBy) (s : State) : (findOp p target s).2.body.length ≤ 34 := by
  fun_cases findOp p target s <;> simp [Reply.ok, Reply.refuse, findRecord_length]

theorem readOp_body_le (p : Port) (i : Slot) (offset length : Byte) (s : State) : (readOp p i offset length s).2.body.length ≤ 34 := by
  fun_cases readOp p i offset length s with
  | case6 pt h hr hst hv hlen =>
    have hle : length.toNat ≤ 16 := by simp only [Config.maxTransfer] at hlen; omega
    simp only [Reply.ok, bytes2, List.length_append, List.length_take, List.length_cons, List.length_nil]
    omega
  | _ => exact Nat.zero_le _

theorem scanOp_body_le (p : Port) (key mask : Key) (after : Option Key) (count : BitVec 3) (s : State) :
    (scanOp p key mask after count s).2.body.length ≤ 34 := by
  fun_cases scanOp p key mask after count s with
  | case1 => exact Nat.zero_le _
  | case2 hc found shown =>
    have hle : shown.length ≤ 4 := (List.length_take_le ..).trans (by simp only [Config.maxEntries] at hc; omega)
    have := scanEntries_length_le p s shown
    simp only [Reply.ok, List.length_append, List.length_cons, List.length_nil]
    omega

theorem takeOp_body_le (p : Port) (count : Byte) (s : State) : (takeOp p count s).2.body.length ≤ 34 := by
  fun_cases takeOp p count s with
  | case1 => exact Nat.zero_le _
  | case2 hc gone left =>
    have hle : gone.length ≤ 4 := (List.length_take_le ..).trans (by simp only [Config.maxEntries] at hc; omega)
    simp only [Reply.ok, List.length_append, List.length_cons, List.length_nil, flatMap_encode_length]
    omega

theorem retireBody_length (s : State) (i : Slot) : (retireBody s i).length = 2 := by
  unfold retireBody
  split <;> rfl

/-- No answer's body is longer than 34 bytes: that of TAKE with four records is the longest (R83, R148, R179). -/
theorem requestOp_body_le (p : Port) (r : Request) (s : State) : (requestOp p r s).2.body.length ≤ 34 := by
  cases r with
  | nop | attend | resend => exact Nat.zero_le _
  | status => exact (by decide : 12 ≤ 34)
  | find target => exact findOp_body_le ..
  | read i offset length => exact readOp_body_le ..
  | scan key mask after count => exact scanOp_body_le ..
  | take count => exact takeOp_body_le ..
  | create | openUpdate | commit | put | refresh | retire | flush | reassign | write | discard | watch | unwatch | restore | timing =>
    simp only [requestOp, createOp, openOp, commitOp, putOp, refreshOp, retireOp, flushOp, reassignOp, writeOp, discardOp, watchOp,
      unwatchOp, restoreOp, timingOp]
    (repeat' split) <;> simp [Reply.ok, Reply.refuse, bytes2, retireBody_length]

/-! ## Engines -/

section
variable {e : Engine} {mute : Bool}

/-- Of a port's being mute, its engine's soundness asks only that the period is not one it answers. -/
theorem Engine.sound.of_mute {mute' : Bool} (h : e.sound mute) (hm : mute' = true → mute = true) : e.sound mute' := by
  obtain ⟨hflight, hsending, hperiod, hmute, hkept⟩ := h
  exact ⟨hflight, hsending, hperiod, hmute ∘ hm, hkept⟩

/-- An engine with no request that has begun to shift an answer out, or is IDLE in a period that it does not answer (R149). -/
theorem Engine.sound.send (h : e.sound mute) {e' : Engine} (hr : e'.request = none) (hp : e'.period = e.period) (hh : e'.hold = e.hold)
    (hc : e'.restoreCount = e.restoreCount) (a : Answer) : (e'.send a).sound mute := by
  obtain ⟨-, -, -, hmute, -, hhold, hrun⟩ := h
  rw [← hp] at hmute
  rw [← hh] at hhold
  rw [← hc] at hrun
  unfold Engine.send
  split
  · next st n hact => exact ⟨by simp [hr], by simp, fun _ => ⟨st, n, hact⟩, hmute, by simp [hr], hhold, hrun⟩
  · exact ⟨by simp [hr], by simp, by simp, hmute, by simp [hr], hhold, hrun⟩

/-- An engine fallen silent is sound, on a mute port too (R136, R157). -/
theorem Engine.sound.silence {mute' : Bool} (h : e.sound mute) : e.silence.sound mute' := by
  obtain ⟨hflight, hsending, hperiod, -, hkept⟩ := h
  unfold Engine.silence Engine.blankPeriod
  cases hp : e.period <;> by_cases hl : e.link = .inFlight <;> simp_all [Engine.sound]

theorem Engine.sound.setRun (h : e.sound mute) {n : Nat} (hn : n ≤ 32) : ({ e with restoreCount := n } : Engine).sound mute := by
  obtain ⟨hflight, hsending, hperiod, hmute, hresend, hhold, -⟩ := h
  exact ⟨hflight, hsending, hperiod, hmute, hresend, hhold, hn⟩

theorem leaves_request (e : Engine) (mute : Bool) (a : Answer) : (e.leaves mute a).request = none := by
  fun_cases Engine.leaves e mute a <;> rfl

theorem send_restoreCount (e : Engine) (a : Answer) : (e.send a).restoreCount = e.restoreCount := by
  unfold Engine.send
  split <;> rfl

theorem runAfter_le {n : Nat} (restoring nopOk : Bool) (hn : n ≤ 32) : runAfter restoring nopOk n ≤ 32 := by
  unfold runAfter
  split
  · exact hn
  · split <;> omega

theorem Engine.sound.run_le (h : e.sound mute) : e.restoreCount ≤ 32 := by
  obtain ⟨-, -, -, -, -, -, hrun⟩ := h
  exact hrun

end

/-- An engine whose request has been answered, with the response in its hold. -/
theorem leaves_sound (e : Engine) (mute : Bool) (a : Answer) {r : Response} {n : Nat} (hr : r.body.length ≤ 34)
    (hn : n ≤ 32) : ({ e.leaves mute a with hold := some r, restoreCount := n } : Engine).sound mute := by
  unfold Engine.leaves
  cases e.period <;> cases mute <;> simp [Engine.sound, Period.isActive, hr, Config.restoreRun, hn]

/-! ## What keeps `LinkSound` -/

/-- A sever is held of a sever-pending port with no request presented (R135, R141). -/
theorem heldRequest_sever {s : State} {p : Port} (h : s.heldRequest = some (.sever p)) :
    (s.record p).severPending = true ∧ (s.engine p).request = none := by
  rcases heldRequest_cases (s := s) (fun _ => .rfl) (fun _ => .rfl) (fun _ => .rfl) with
    ⟨q, hr, hf⟩ | ⟨q, hr, -⟩ | ⟨q, hr, -⟩ | ⟨hr, -⟩ <;> rw [hr] at h <;> cases h
  exact hf.1

section
variable {s t : State} (hs : LinkSound s)
include hs

theorem LinkSound.engine (p : Port) : (s.engine p).sound (s.mute p) := by
  obtain ⟨h, -⟩ := hs
  exact h p

theorem LinkSound.request (p : Port) (h : (s.engine p).request.isSome) :
    s.supply.state = .running ∧ (s.record p).standing ≠ .severed := by
  obtain ⟨-, hreq, -⟩ := hs
  exact hreq p h

theorem LinkSound.sever (p : Port) (h : s.standing.request = some (.sever p)) :
    (s.record p).severPending = true ∧ (s.engine p).request = none := by
  obtain ⟨-, -, hsever, -⟩ := hs
  exact hsever p h

theorem LinkSound.reset (h : s.supply.state = .reset) (p : Port) :
    ∃ pd, s.engine p = { Engine.reset with period := pd } ∧ (pd = .high ∨ pd = .blank) := by
  obtain ⟨-, -, -, hreset⟩ := hs
  exact hreset h p

/-- An engine is written: what it then presents the part may have presented, and in RESET it is at its reset values. -/
theorem LinkSound.setEngine {p : Port} {e : Engine} (he : e.sound (s.mute p))
    (hreq : e.request.isSome → s.supply.state = .running ∧ (s.record p).standing ≠ .severed)
    (hsever : s.standing.request = some (.sever p) → e.request = none)
    (hreset : s.supply.state = .reset → ∃ pd, e = { Engine.reset with period := pd } ∧ (pd = .high ∨ pd = .blank)) :
    LinkSound (s.setEngine p e) := by
  have hself : (s.setEngine p e).engine p = e := (setEngine_engine ..).trans (if_pos rfl)
  have hother : ∀ {q}, p ≠ q → (s.setEngine p e).engine q = s.engine q := fun hpq => (setEngine_engine ..).trans (if_neg hpq)
  refine ⟨fun q => ?_, fun q hq => ?_, fun q hq => ?_, fun hz q => ?_⟩ <;> obtain rfl | hpq := eq_or_ne p q
  · rw [hself]; exact he
  · rw [hother hpq]; exact hs.engine q
  · rw [hself] at hq; exact hreq hq
  · rw [hother hpq] at hq; exact hs.request q hq
  · rw [hself]; exact ⟨(hs.sever p hq).1, hsever hq⟩
  · rw [hother hpq]; exact hs.sever q hq
  · rw [hself]; exact hreset hz
  · rw [hother hpq]; exact hs.reset hz q

/-- An engine is written outside RESET with the request it had. -/
theorem LinkSound.setEngine_awake (h : s.supply.state ≠ .reset) {p : Port} {e : Engine} (he : e.sound (s.mute p))
    (hreq : e.request = (s.engine p).request) : LinkSound (s.setEngine p e) :=
  hs.setEngine he (fun hr => hs.request p (hreq ▸ hr)) (fun hr => hreq.trans (hs.sever p hr).2) fun hz => (h hz).elim

/-- A record is written: the port is mute only if it was, and SEVERED only with no request presented. -/
theorem LinkSound.setRecord {p : Port} {x : StandingRec} (hmute : (x.severPending || x.standing == .severed) = true → s.mute p = true)
    (hreq : x.standing = .severed → (s.engine p).request = none)
    (hsever : s.standing.request = some (.sever p) → x.severPending = true) : LinkSound (s.setRecord p x) := by
  refine ⟨fun q => (hs.engine q).of_mute fun hm => ?_, fun q hq => ?_, fun q hq => ?_, hs.reset⟩
  · unfold State.mute at hm
    rw [setRecord_record] at hm
    split at hm
    · next hpq => subst hpq; exact hmute hm
    · exact hm
  · rw [setRecord_record]
    split
    · next hpq =>
      subst hpq
      refine ⟨(hs.request p hq).1, fun hsev => ?_⟩
      rw [setRecord_engine, hreq hsev] at hq
      cases hq
    · exact hs.request q hq
  · rw [setRecord_record]
    split
    · next hpq => subst hpq; exact ⟨hsever hq, (hs.sever p hq).2⟩
    · exact hs.sever q hq

/-- It looks at nothing but the supply state, the standing unit and the port engines. -/
theorem LinkSound.of_same (he : t.engines = s.engines) (hst : t.standing = s.standing)
    (hreset : t.supply.state = .reset → s.supply.state = .reset)
    (hrun : ∀ p, (s.engine p).request.isSome → t.supply.state = .running) : LinkSound t := by
  have hengine : ∀ q, t.engine q = s.engine q := fun q => by unfold State.engine; rw [he]
  have hrecord : ∀ q, t.record q = s.record q := fun q => by unfold State.record; rw [hst]
  have hmute : ∀ q, t.mute q = s.mute q := fun q => by unfold State.mute; rw [hrecord]
  simp only [LinkSound, hengine, hrecord, hmute, hst]
  exact ⟨hs.engine, fun p hp => ⟨hrun p hp, (hs.request p hp).2⟩, hs.sever, fun h => hs.reset (hreset h)⟩

theorem LinkSound.of_bare (h : t.bare = s.bare) : LinkSound t :=
  hs.of_same (congrArg (fun s => s.engines) h) (bare_standing h) (by rw [bare_supply h]; exact id) fun p hp => by
    rw [bare_supply h]
    exact (hs.request p hp).1

theorem LinkSound.setTimer (x : Timer) : LinkSound (s.setTimer x) := hs.of_same rfl rfl id fun p hp => (hs.request p hp).1

theorem LinkSound.setGrant (g : Requester) : LinkSound (s.setGrant g) := hs.of_same rfl rfl id fun p hp => (hs.request p hp).1

/-- A request of the standing unit is taken: nothing is presented in its place yet. -/
theorem LinkSound.standingTaken (p : Port) : LinkSound (s.standingTaken p) :=
  ⟨hs.engine, hs.request, nofun, hs.reset⟩

theorem LinkSound.presentHeld (h : s.supply.state ≠ .reset) : LinkSound s.presentHeld := by
  refine ⟨fun p => ?_, fun p hp => ?_, fun p hp => ?_, fun hz => ?_⟩
  · rw [presentHeld_engine, presentHeld_mute]
    exact hs.engine p
  · rw [presentHeld_engine] at hp
    rw [presentHeld_supply, presentHeld_record]
    exact hs.request p hp
  · rw [presentHeld_record, presentHeld_engine]
    rw [presentHeld_eq, setStandingRequest_request] at hp
    rcases Option.or_eq_some_iff.mp hp with hq | ⟨-, hq⟩
    · exact hs.sever p hq
    · exact heldRequest_sever hq
  · rw [presentHeld_supply] at hz
    exact (h hz).elim

/-- An outcome of a frame of port `p`, whose request, if it had one, is gone: it leaves a sever pending (R130), and what the standing unit then
presents it holds. -/
theorem LinkSound.of_outcome (h : s.supply.state ≠ .reset) {p : Port} {st : Status} (he : (t.engine p).sound (t.mute p))
    (hreq : (t.engine p).request = none) (hrec : t.record p = (s.record p).after (p == s.supervisor) st)
    (hothers : ∀ q, q ≠ p → t.engine q = s.engine q ∧ t.record q = s.record q) (hw : t.supply = s.supply)
    (hst : t.standing.request = s.standing.request.or t.heldRequest) : LinkSound t := by
  refine ⟨fun q => ?_, fun q hq => ?_, fun q hq => ?_, fun hz => absurd hz (hw ▸ h)⟩
  · by_cases hqp : q = p
    · exact hqp ▸ he
    · have hmute : t.mute q = s.mute q := by unfold State.mute; rw [(hothers q hqp).2]
      rw [(hothers q hqp).1, hmute]
      exact hs.engine q
  · by_cases hqp : q = p
    · rw [hqp, hreq] at hq
      cases hq
    · rw [(hothers q hqp).1] at hq
      rw [hw, (hothers q hqp).2]
      exact hs.request q hq
  · rcases Option.or_eq_some_iff.mp (hst ▸ hq) with hq | ⟨-, hq⟩
    · obtain ⟨hpend, hnone⟩ := hs.sever q hq
      by_cases hqp : q = p
      · subst hqp
        exact ⟨by rw [hrec, after_of_fixed _ st (.inl hpend)]; exact hpend, hreq⟩
      · rw [(hothers q hqp).1, (hothers q hqp).2]
        exact ⟨hpend, hnone⟩
    · exact heldRequest_sever hq

end

/-! ## Answers -/

/-- An engine that is receiving a frame is in an answered period of a port that is not mute, outside RESET (R149, R151, R158). -/
theorem receiving_iff {s : State} {p : Port} :
    s.receiving p = true ↔ (s.engine p).link = .receiving ∧ (∃ st n, (s.engine p).period = .active st n) ∧ s.mute p = false ∧
      s.supply.state ≠ .reset := by
  unfold State.receiving
  cases (s.engine p).period <;> simp [and_assoc]

/-- A frame that the engine answers itself is one engine written and an outcome settled. -/
theorem answerFrame_eq (s : State) (p : Port) (frame : List Byte) (a : Answer) (st : Status) :
    s.answerFrame p frame a st =
      (s.setEngine p { ({ s.engine p with received := frameLength frame, assembled := keptBytes (frame.take (frameLength frame - 1)) } :
        Engine).send a with
        restoreCount := runAfter ((s.record p).standing == .restoring) false (s.engine p).restoreCount }).settleOutcome p st := by
  unfold State.answerFrame State.acceptBytes State.send
  rw [breakRun_eq]
  simp [send_restoreCount]

section
variable {s : State} (hs : LinkSound s)
include hs

theorem LinkSound.answerFrame {p : Port} (h : s.receiving p = true) (frame : List Byte) (a : Answer) (st : Status) :
    LinkSound (s.answerFrame p frame a st) := by
  rw [answerFrame_eq]
  set e0 : Engine := { s.engine p with received := frameLength frame, assembled := keptBytes (frame.take (frameLength frame - 1)) }
    with he0
  set e : Engine := { e0.send a with
    restoreCount := runAfter ((s.record p).standing == .restoring) false (s.engine p).restoreCount } with he
  have hnone : e0.request = none := hs.request_of_receiving h
  have hsound : e.sound (s.mute p) :=
    ((hs.engine p).send (e' := e0) hnone rfl rfl rfl a).setRun (runAfter_le _ _ (hs.engine p).run_le)
  have hreq : e.request = none := (send_request ..).trans hnone
  obtain ⟨hengine, hrec, hothers, hstanding, -⟩ := settleOutcome_spec (s.setEngine p e) p st
  obtain ⟨-, -, -, hsupply, -, -⟩ := settleOutcome_keeps (s.setEngine p e) p st
  rw [setEngine_engine, if_pos rfl] at hengine
  refine hs.of_outcome (awake_of_receiving h) ?_ ?_ hrec (fun q hq => ?_) hsupply hstanding
  · rw [hengine]
    split
    · exact hsound.silence
    · next hm => exact hsound.of_mute fun hc => (hm hc).elim
  · rw [hengine]
    split
    · exact (silence_request e).trans hreq
    · exact hreq
  · rw [(hothers q hq).1, (hothers q hq).2, setEngine_engine, if_neg (Ne.symm hq)]
    exact ⟨rfl, rfl⟩

theorem LinkSound.handBack (h : s.supply.state ≠ .reset) {p : Port} (hg : s.lastGrant = .port p) (tag : Byte) (c : Command) {r : Reply}
    (hr : r.body.length ≤ 34) : LinkSound (s.handBack p tag c r) := by
  obtain ⟨⟨hengine, hrec, hothers, -, hsupply, -, -, hstanding⟩, -⟩ := handBack_answered s p tag c r hg
  refine hs.of_outcome h ?_ ?_ hrec hothers hsupply hstanding
  · rw [hengine]
    exact leaves_sound _ _ _ hr (runAfter_le _ _ (hs.engine p).run_le)
  · rw [hengine]
    exact leaves_request ..

end

end Sys2Proof.Machine
end

section
/-! SUPPORT. Every command keeps `LinkSound`: the operations that grants carry out, withdrawals, and the events of the engines, the timer unit and
the supply watch. -/

namespace Sys2Proof.Machine

open Host (Outcome)

/-! ## Granted operations -/

section
variable {s : State} (hs : LinkSound s)
include hs

theorem LinkSound.restoreOp (h : s.supply.state ≠ .reset) (p : Port) (target : Byte) : LinkSound (restoreOp p target s).1 := by
  obtain hb | ⟨q, -, hb⟩ := restoreOp_bare p s target
  · exact hs.of_bare hb
  · have hcount : LinkSound (s.setEngine q { s.engine q with restoreCount := 0 }) :=
      hs.setEngine_awake h ((hs.engine q).setRun (Nat.zero_le _)) rfl
    refine .of_bare (s := (s.setEngine q { s.engine q with restoreCount := 0 }).setRecord q { s.record q with standing := .restoring })
      (hcount.setRecord (fun hm => ?_) nofun fun hr => (hs.sever q hr).1) hb
    have hpend : (s.record q).severPending = true := by simpa using hm
    simp [State.mute, hpend]

theorem LinkSound.requestOp (h : s.supply.state ≠ .reset) (p : Port) (r : Request) : LinkSound (requestOp p r s).1 := by
  cases r with
  | attend on => exact hs.setEngine_awake h (hs.engine p) rfl
  | restore target => exact hs.restoreOp h p target
  | _ => exact hs.of_bare (requestOp_bare p s nofun nofun)

/-- The standing unit's operations find its request taken; a port that is severed was mute, with no request presented (R136, R141). -/
theorem LinkSound.standingOp (h : s.supply.state ≠ .reset) (hn : s.standing.request = none) {r : StandingRequest}
    (hsever : ∀ p, r = .sever p → (s.record p).severPending = true ∧ (s.engine p).request = none) : LinkSound (r.op s) := by
  have hpending : ∀ {p}, (s.record p).severPending = true → s.mute p = true := fun hp => by simp [State.mute, hp]
  have hnone : ∀ {p x}, s.standing.request = some (.sever p) → x := fun hr => by rw [hn] at hr; cases hr
  cases r with
  | sever p =>
    obtain ⟨hpend, hreq⟩ := hsever p rfl
    have hrec : LinkSound (s.setRecord p (s.record p).severed) := hs.setRecord (fun _ => hpending hpend) (fun _ => hreq) hnone
    refine LinkSound.of_bare ?_ (severPort_bare p s)
    refine hrec.setEngine_awake h ?_ rfl
    obtain ⟨hflight, hsending, hperiod, hmute, hresend, -, hrun⟩ := hrec.engine p
    exact ⟨hflight, hsending, hperiod, hmute, hresend, nofun, hrun⟩
  | restored p =>
    have hrec : LinkSound (s.setRecord p { s.record p with standing := .good, score := 0, reportPending := false }) :=
      hs.setRecord (fun hm => hpending (by simpa using hm)) nofun hnone
    exact .of_bare (hrec.setEngine_awake h ((hrec.engine p).setRun (Nat.zero_le _)) rfl) (restorePort_bare p s)
  | change p =>
    refine LinkSound.of_bare ?_ (reportStanding_bare p s)
    exact hs.setRecord id (fun hsev => by_contra fun hr => (hs.request p (Option.isSome_iff_ne_none.mpr hr)).2 hsev) hnone

end

/-- No request's operation moves the supply watch or the arbiter's grant. -/
theorem requestOp_keeps (p : Port) (r : Request) (s : State) :
    (requestOp p r s).1.supply = s.supply ∧ (requestOp p r s).1.lastGrant = s.lastGrant := by
  cases r with
  | attend on => exact ⟨rfl, rfl⟩
  | restore target =>
    obtain h | ⟨q, -, h⟩ := restoreOp_bare p s target <;> exact ⟨(bare_supply h).trans rfl, (bare_lastGrant h).trans rfl⟩
  | _ => exact ⟨bare_supply (requestOp_bare p s nofun nofun), bare_lastGrant (requestOp_bare p s nofun nofun)⟩

theorem standingOp_supply (r : StandingRequest) (s : State) : (r.op s).supply = s.supply := by
  cases r with
  | sever p => exact (bare_supply (severPort_bare p s)).trans rfl
  | restored p => exact (bare_supply (restorePort_bare p s)).trans rfl
  | change p => exact (bare_supply (reportStanding_bare p s)).trans rfl

/-! ## Withdrawals -/

/-- An engine whose request, if it has one, is withdrawn and answered HELD, its period FFh if the port is mute (R158, R169). -/
def Engine.withdrawn (e : Engine) (mute restoring : Bool) : Engine :=
  match e.request with
  | none => e
  | some pr =>
    let e' := { ({ e with request := none } : Engine).send { tag := pr.tag, status := .held, body := [], atCheck := false } with
      restoreCount := runAfter restoring false e.restoreCount }
    if mute then e'.silence else e'

theorem withdraw_eq_setEngine (s : State) (p : Port) :
    s.withdraw p = s.setEngine p ((s.engine p).withdrawn (s.mute p) ((s.record p).standing == .restoring)) := by
  unfold State.withdraw Engine.withdrawn
  cases (s.engine p).request with
  | none => exact (setEngine_self s p).symm
  | some pr =>
    simp only [breakRun_eq, State.send, State.muteEngine, setEngine_setEngine, setEngine_engine, if_true, setEngine_mute, setEngine_record,
      send_restoreCount]
    split <;> rfl

theorem withdrawn_request (e : Engine) (mute restoring : Bool) : (e.withdrawn mute restoring).request = none := by
  unfold Engine.withdrawn
  split
  · next hn => exact hn
  · dsimp only
    split
    · exact (silence_request _).trans (send_request ..)
    · exact send_request ..

theorem Engine.sound.withdrawn {e : Engine} {mute : Bool} (h : e.sound mute) (restoring : Bool) : (e.withdrawn mute restoring).sound mute := by
  unfold Engine.withdrawn
  split
  · exact h
  · next pr _ =>
    have hsent := (h.send (e' := { e with request := none }) rfl rfl rfl rfl
      { tag := pr.tag, status := .held, body := [], atCheck := false }).setRun (runAfter_le restoring false h.run_le)
    dsimp only
    split
    · exact hsent.silence
    · exact hsent

/-- A freeze, seen from the ports: their requests are withdrawn, and the part is sound but for its supply state. -/
theorem LinkSound.withdraws {s : State} (hs : LinkSound s) (h : s.supply.state ≠ .reset) (l : List Port) :
    LinkSound (l.foldl State.withdraw s) := by
  induction l generalizing s with
  | nil => exact hs
  | cons p l ih =>
    have hnone := withdrawn_request (s.engine p) (s.mute p) ((s.record p).standing == .restoring)
    rw [List.foldl_cons, withdraw_eq_setEngine]
    refine ih (hs.setEngine ((hs.engine p).withdrawn _) (fun hr => ?_) (fun _ => hnone) fun hz => (h hz).elim) h
    rw [hnone] at hr
    cases hr

theorem withdraws_request (l : List Port) (s : State) (q : Port) :
    ((l.foldl State.withdraw s).engine q).request = if q ∈ l then none else (s.engine q).request := by
  induction l generalizing s with
  | nil => rfl
  | cons p l ih =>
    rw [List.foldl_cons, ih, withdraw_eq_setEngine, setEngine_engine]
    by_cases hpq : p = q
    · subst hpq; simp [withdrawn_request]
    · simp [hpq, Ne.symm hpq]

/-- Withdrawals do not look at the supply watch. -/
theorem withdraws_setSupply (l : List Port) (s : State) (w : SupplyWatch) :
    l.foldl State.withdraw (s.setSupply w) = (l.foldl State.withdraw s).setSupply w := by
  induction l generalizing s with
  | nil => rfl
  | cons p l ih =>
    have hp : (s.setSupply w).withdraw p = (s.withdraw p).setSupply w := by rw [withdraw_eq_setEngine, withdraw_eq_setEngine]; rfl
    rw [List.foldl_cons, hp, ih, List.foldl_cons]

/-! ## Events -/

/-- Engines at their reset values but for SEL, and no standing request presented: so after every entry to RESET (R146, R164). -/
theorem linkSound_of_reset {t : State} (he : ∀ p, ∃ pd, t.engine p = { Engine.reset with period := pd } ∧ (pd = .high ∨ pd = .blank))
    (hr : t.standing.request = none) : LinkSound t := by
  have hidle : ∀ p, (t.engine p).request = none := fun p => by
    obtain ⟨pd, hp, -⟩ := he p
    rw [hp]
    rfl
  refine ⟨fun p => ?_, fun p hp => ?_, fun p hp => ?_, fun _ => he⟩
  · obtain ⟨pd, hp, hpd⟩ := he p
    rw [hp]
    refine ⟨by simp [Engine.reset], by simp [Engine.reset], by simp [Engine.reset], fun _ => hpd, ?_, ?_, Nat.zero_le _⟩ <;> exact nofun
  · rw [hidle p] at hp
    cases hp
  · rw [hr] at hp
    cases hp

theorem linkSound_enterReset (s : State) (w : SupplyWatch) : LinkSound (s.enterReset.setSupply w) := by
  refine linkSound_of_reset (fun p => ?_) rfl
  have hengine : (s.enterReset.setSupply w).engine p = (s.engine p).intoReset := Vector.get_map ..
  refine ⟨_, hengine, ?_⟩
  cases (s.engine p).period
  · exact .inl rfl
  · exact .inr rfl
  · exact .inr rfl

section
variable {s : State} (hs : LinkSound s)
include hs

/-- A meaning that is sound under its condition, and otherwise changes nothing. -/
theorem LinkSound.of_ite {t u : State} {cond : Prop} [Decidable cond]
    (h : (if cond then Outcome.next u else .next s : Outcome State Fault Refusal) = .next t) (hu : cond → LinkSound u) :
    LinkSound t := by
  split at h <;> cases h
  · next hc => exact hu hc
  · exact hs

theorem LinkSound.of_idle {t : State} (h : (.next s : Outcome State Fault Refusal) = .next t) : LinkSound t := by
  cases h
  exact hs

/-! ### Grants -/

theorem LinkSound.grantPort {t : State} {p : Port} {r : Request} (h : s.grantPort p r (Machine.requestOp p r) = .next t) :
    LinkSound t := by
  by_cases ht : ∃ tag, Taken s p tag r
  · obtain ⟨tag, ht⟩ := ht
    have hawake : s.supply.state ≠ .reset := by simp [running_of_nextGrant ht.2]
    rw [grantPort_of_taken _ ht] at h
    cases h
    obtain ⟨hsupply, hgrant⟩ := requestOp_keeps p r (s.setGrant (.port p))
    have hop := (hs.setGrant (.port p)).requestOp hawake p r
    exact hop.handBack (by rw [hsupply]; exact hawake) hgrant tag r.command (requestOp_body_le ..)
  · rw [grantPort_of_not_taken _ (not_exists.mp ht)] at h
    exact hs.of_idle h

theorem LinkSound.grantTimer {t : State} {i : Slot} {k : DeadlineKind} (h : s.grantTimer i k (fun s => s.expire i k) = .next t) :
    LinkSound t := by
  by_cases hg : s.timer.request = some (i, k) ∧ s.nextGrant = some .timer
  · rw [grantTimer_granted _ hg.1 hg.2] at h
    cases h
    have htaken : LinkSound s.timerTaken := (hs.setTimer _).setGrant .timer
    split
    · exact htaken.of_bare (expire_bare i _ k)
    · exact htaken
  · rw [grantTimer_of_not_granted _ hg] at h
    exact hs.of_idle h

theorem LinkSound.grantStanding {t : State} {r : StandingRequest} (h : s.grantStanding r r.port r.op = .next t) : LinkSound t := by
  by_cases hg : s.standing.request = some r ∧ s.nextGrant = some .standing
  · have hawake : s.supply.state ≠ .reset := by simp [running_of_nextGrant hg.2]
    rw [grantStanding_granted _ hg.1 hg.2] at h
    cases h
    have hsever : ∀ p, r = .sever p → (s.record p).severPending = true ∧ (s.engine p).request = none := fun p hp =>
      hs.sever p (hp ▸ hg.1)
    exact ((hs.standingTaken r.port).standingOp hawake rfl hsever).presentHeld (by rw [standingOp_supply]; exact hawake)
  · rw [grantStanding_of_not_granted _ hg] at h
    exact hs.of_idle h

/-! ### Events of the port engines -/

theorem LinkSound.badFrame {t : State} {p : Port} {frame : List Byte} (h : execBadFrame p frame s = .next t) : LinkSound t := by
  unfold execBadFrame at h
  split at h
  · exact hs.of_ite h fun hc => hs.answerFrame hc ..
  · exact hs.of_idle h

theorem LinkSound.checkFail {t : State} {p : Port} {frame : List Byte} (h : execCheckFail p frame s = .next t) : LinkSound t := by
  unfold execCheckFail at h
  split at h
  · exact hs.of_ite h fun hc => hs.answerFrame hc ..
  · exact hs.of_idle h

theorem LinkSound.held {t : State} {p : Port} {frame : List Byte} (h : execHeld p frame s = .next t) : LinkSound t := by
  unfold execHeld at h
  split at h
  · exact hs.of_ite h fun hc => hs.answerFrame hc.1 ..
  · exact hs.of_idle h

theorem LinkSound.resend {t : State} {p : Port} {frame : List Byte} (h : execResend p frame s = .next t) : LinkSound t := by
  unfold execResend at h
  split at h
  · exact hs.of_ite h fun hc => hs.answerFrame hc.1 ..
  · exact hs.of_idle h

/-- A port that presents a request is not mute, so that no sever of it is presented (R136, R141). -/
theorem LinkSound.requestPresented {t : State} {p : Port} {frame : List Byte} (h : execRequestPresented p frame s = .next t) :
    LinkSound t := by
  unfold execRequestPresented at h
  split at h
  · next tag r _ =>
    refine hs.of_ite h fun ⟨hr, hrun, hcmd⟩ => ?_
    obtain ⟨hlink, -, hmute, -⟩ := receiving_iff.mp hr
    obtain ⟨hpend, hsev⟩ : (s.record p).severPending = false ∧ (s.record p).standing ≠ .severed := by
      simpa [State.mute] using hmute
    obtain ⟨-, hsending, -, -, -, hhold, hcount⟩ := hs.engine p
    simp only [State.acceptBytes, setEngine_setEngine, setEngine_engine, if_true]
    refine hs.setEngine ⟨by simp, ?_, by simp, by simp [hmute], by simpa using hcmd, hhold, hcount⟩ (fun _ => ⟨hrun, hsev⟩) (fun hr => ?_)
      fun hz => (by cases hrun.symm.trans hz)
    · rw [← hsending, hlink]
      simp
    · rw [(hs.sever p hr).1] at hpend
      cases hpend
  · exact hs.of_idle h

theorem LinkSound.selectPeriodStart {t : State} {p : Port} (h : execSelectPeriodStart p s = .next t) : LinkSound t := by
  unfold execSelectPeriodStart at h
  dsimp only at h
  have hsound := hs.engine p
  obtain ⟨hflight, hsending, hperiod, -, hresend, hhold, hcount⟩ := id hsound
  split at h
  · next hhigh =>
    have hlink : (s.engine p).link ≠ .receiving ∧ (s.engine p).link ≠ .sending := by
      rw [hhigh] at hperiod
      simpa using hperiod
    split at h <;> cases h
    · refine hs.setEngine ⟨hflight, hsending, by simp [hlink], fun _ => .inr rfl, hresend, hhold, hcount⟩ (hs.request p)
        (fun hr => (hs.sever p hr).2) fun hz => ?_
      obtain ⟨pd, he, -⟩ := hs.reset hz p
      exact ⟨.blank, by rw [he], .inr rfl⟩
    · next hc =>
      obtain ⟨hz, hmute, hidle⟩ : s.supply.state ≠ .reset ∧ s.mute p = false ∧ (s.engine p).link ≠ .inFlight := by
        simpa [not_or] using hc
      refine hs.setEngine_awake hz ⟨?_, by simp, fun _ => ⟨_, _, rfl⟩, by simp [hmute], hresend, hhold, hcount⟩ rfl
      exact iff_of_false nofun fun hr => hidle (hflight.mpr hr)
  · exact hs.of_idle h

theorem LinkSound.selectPeriodEnd {t : State} {p : Port} (h : execSelectPeriodEnd p s = .next t) : LinkSound t := by
  unfold execSelectPeriodEnd at h
  dsimp only at h
  split at h
  · exact hs.of_idle h
  · cases h
    obtain ⟨hflight, -, -, -, hresend, hhold, hcount⟩ := hs.engine p
    refine hs.setEngine ⟨?_, ?_, ?_, fun _ => .inl rfl, hresend, hhold, hcount⟩ (hs.request p) (fun hr => (hs.sever p hr).2) fun hz => ?_
    · show (if (s.engine p).link = .inFlight then _ else _) = _ ↔ _
      split
      · next hl => exact iff_of_true rfl (hflight.mp hl)
      · next hl => exact iff_of_false nofun fun hr => hl (hflight.mpr hr)
    · dsimp only
      split <;> simp
    · dsimp only
      split <;> simp
    · obtain ⟨pd, he, -⟩ := hs.reset hz p
      exact ⟨.high, by rw [he]; rfl, .inl rfl⟩

/-! ### Events of the timer unit and the supply watch -/

theorem LinkSound.expiryRequest {t : State} (h : execExpiryRequest s = .next t) : LinkSound t := by
  unfold execExpiryRequest at h
  split at h
  · exact hs.of_ite h fun _ => hs.setTimer _
  · exact hs.of_idle h

/-- A freeze leaves no request presented by a port, and so none outside RUNNING (R158, R169). -/
theorem LinkSound.droopFreeze {t : State} (h : execDroopFreeze s = .next t) : LinkSound t := by
  unfold execDroopFreeze at h
  refine hs.of_ite h fun hc => ?_
  have hawake : s.supply.state ≠ .reset := fun hz => by simp [droopDetected_eq_false (.inl hz)] at hc
  have hnone : ∀ p, ((allPorts.foldl State.withdraw s).engine p).request = none := fun p => by
    rw [withdraws_request, if_pos (mem_allPorts p)]
  refine LinkSound.presentHeld ?_ ?_
  · rw [withdraws_setSupply]
    exact (hs.withdraws hawake allPorts).of_same rfl rfl nofun fun p hp => by rw [hnone p] at hp; cases hp
  · rw [withdraws_keep (fun s => s.supply) fun _ _ _ => rfl]
    exact nofun

/-- Outside RUNNING no request is presented, and a supply event may lead to any state but RESET (R152, R158). -/
theorem LinkSound.setSupply_idle {w : SupplyWatch} (h : s.supply.state ≠ .running) (hz : w.state = .reset → s.supply.state = .reset) :
    LinkSound (s.setSupply w) := hs.of_same rfl rfl hz fun p hp => (h (hs.request p hp).1).elim

theorem LinkSound.clockPeriod : LinkSound s.clockPeriod := by
  fun_cases State.clockPeriod s with
  | case1 => exact hs.setTimer _
  | case2 => exact hs.setTimer _
  | case3 hst => exact hs.setSupply_idle (by simp [hst]) nofun
  | case4 hst => exact hs.setSupply_idle (by simp [hst]) id
  | case5 => exact hs
  | case6 => exact hs

end

theorem LinkSound.exec {c : Instr} {s t : State} (hs : LinkSound s) (h : exec c s = .next t) : LinkSound t := by
  cases c with
  | nop | status | attend | create | find | read | scan | openUpdate | write | commit | discard | put | refresh | retire | watch
  | unwatch | take | restore | flush | reassign | timing => exact hs.grantPort h
  | tick => exact hs.of_ite h fun _ => hs.setTimer _
  | expiryRequest => exact hs.expiryRequest h
  | freshExpiry i => exact hs.grantTimer (k := .fresh) h
  | holdExpiry i => exact hs.grantTimer (k := .hold) h
  | sever p => exact hs.grantStanding (r := .sever p) h
  | restorationComplete p => exact hs.grantStanding (r := .restored p) h
  | standingChange p => exact hs.grantStanding (r := .change p) h
  | resend p frame => exact hs.resend h
  | badFrame p frame => exact hs.badFrame h
  | checkFail p frame => exact hs.checkFail h
  | held p frame => exact hs.held h
  | requestPresented p frame => exact hs.requestPresented h
  | selectPeriodStart p => exact hs.selectPeriodStart h
  | selectPeriodEnd p => exact hs.selectPeriodEnd h
  | powerOnReset => cases h; exact linkSound_enterReset ..
  | pinReset => cases h; exact linkSound_enterReset ..
  | supplyReset => exact hs.of_ite h fun _ => linkSound_enterReset ..
  | resetRelease sup swm => exact hs.of_ite h fun hc => hs.setSupply_idle (by simp [hc]) nofun
  | settleEnd => exact hs.of_ite h fun hc => hs.setSupply_idle (by simp [hc]) nofun
  | droopFreeze => exact hs.droopFreeze h
  | droopRecovery => exact hs.of_ite h fun hc => hs.setSupply_idle (by simp [hc]) nofun

/-- Settles O58: a clock period moves no engine, and each command keeps `LinkSound` (`LinkSound.exec`): a request is presented by a port that is
not mute and in RUNNING alone, a freeze withdraws all of them, and a SEVER is granted only where none is presented. -/
theorem linkAlwaysSound : Obligations.LinkAlwaysSound := by
  intro s t hs h
  unfold step at h
  split at h
  · cases h
    exact hs.clockPeriod
  · next c rest _ =>
    have hs' : LinkSound { s with pending := rest } := hs
    exact hs'.exec h

end Sys2Proof.Machine
end

section
/-! SUPPORT. Request frames: the fields and their bytes, a body read back and written again, and what the engine makes of a complete frame. -/

namespace Sys2Proof.Machine

/-! ## Fields and bytes (R172) -/

@[simp] theorem byteSlot_slotByte (i : Slot) : byteSlot (slotByte i) = i :=
  Fin.ext (Nat.mod_eq_of_lt i.isLt)

@[simp] theorem slotByte_byteSlot (b : Byte) : slotByte (byteSlot b) = b :=
  BitVec.eq_of_toNat_eq (Nat.mod_eq_of_lt b.isLt)

theorem extractLsb'_append_high {m n : Nat} (a : BitVec m) (b : BitVec n) : (a ++ b).extractLsb' n m = a := by
  rw [BitVec.extractLsb'_append_eq_of_le (Nat.le_refl n)]
  simp

theorem extractLsb'_append_low {m n : Nat} (a : BitVec m) (b : BitVec n) : (a ++ b).extractLsb' 0 n = b := by
  rw [BitVec.extractLsb'_append_eq_of_add_le (Nat.zero_add n).le]
  simp

@[simp] theorem bytes2_ofBytes2 (a b : Byte) : bytes2 (ofBytes2 a b) = [a, b] :=
  congrArg₂ (fun x y => [x, y]) (extractLsb'_append_high a b) (extractLsb'_append_low a b)

@[simp] theorem keyBytes_ofBytes3 (a b c : Byte) : keyBytes (ofBytes3 a b c) = [a, b, c] := by
  have hhigh : (ofBytes3 a b c).extractLsb' 16 8 = a :=
    (BitVec.extractLsb'_append_eq_of_le (by decide : 8 ≤ 16)).trans (extractLsb'_append_high a b)
  have hmid : (ofBytes3 a b c).extractLsb' 8 8 = b :=
    (BitVec.extractLsb'_append_eq_of_le (Nat.le_refl 8)).trans (extractLsb'_append_low a b)
  have hlow : (ofBytes3 a b c).extractLsb' 0 8 = c := extractLsb'_append_low (a ++ b) c
  rw [keyBytes, hhigh, hmid, hlow]

@[simp] theorem ofBytes2_bytes2 (w : BitVec 16) : ofBytes2 (w.extractLsb' 8 8) (w.extractLsb' 0 8) = w :=
  (BitVec.extractLsb'_append_extractLsb'_eq_extractLsb' (start₁ := 0) (len₁ := 8) rfl).trans (BitVec.extractLsb'_eq_self ..)

@[simp] theorem ofBytes3_keyBytes (k : Key) : ofBytes3 (k.extractLsb' 16 8) (k.extractLsb' 8 8) (k.extractLsb' 0 8) = k := by
  have hhigh : k.extractLsb' 16 8 ++ k.extractLsb' 8 8 = k.extractLsb' 8 16 :=
    BitVec.extractLsb'_append_extractLsb'_eq_extractLsb' rfl
  have hall : k.extractLsb' 8 16 ++ k.extractLsb' 0 8 = k :=
    (BitVec.extractLsb'_append_extractLsb'_eq_extractLsb' (start₁ := 0) (len₁ := 8) rfl).trans (BitVec.extractLsb'_eq_self ..)
  rw [ofBytes3, hhigh, hall]

/-- A byte whose bits 7 to 4 are reserved, and hold zero, is its low four bits (R175). -/
theorem low4_of_reserved {b : Byte} (h : b &&& 0xF0 = 0) : (b.extractLsb' 0 4).zeroExtend 8 = b := by
  revert b; decide

theorem reserved_of_low4 (x : BitVec 4) : x.zeroExtend 8 &&& 0xF0 = (0 : Byte) ∧ (x.zeroExtend 8 : Byte).extractLsb' 0 4 = x := by
  revert x; decide

/-- The setting byte of ATTEND: bit 0, the others reserved (R178). -/
theorem bit_of_reserved {b : Byte} (h : b &&& 0xFE = 0) : bit (b.getLsbD 0) = b := by
  revert b; decide

theorem reserved_of_bit (on : Bool) : bit on &&& 0xFE = 0 ∧ (bit on).getLsbD 0 = on := by
  revert on; decide

/-- The control byte of SCAN: the after flag in bit 7, the count in bits 2 to 0, the others reserved (R178). -/
theorem control_of_reserved {b : Byte} (h : b &&& 0x78 = 0) :
    (b.getLsbD 7 = false → (b.extractLsb' 0 3).zeroExtend 8 = b) ∧
    (b.getLsbD 7 = true → 0x80 ||| (b.extractLsb' 0 3).zeroExtend 8 = b) := by
  revert b; decide

theorem reserved_of_control (x : BitVec 3) :
    (x.zeroExtend 8 &&& 0x78 = (0 : Byte) ∧ (x.zeroExtend 8 : Byte).getLsbD 7 = false ∧ (x.zeroExtend 8 : Byte).extractLsb' 0 3 = x) ∧
    ((0x80 ||| x.zeroExtend 8) &&& 0x78 = (0 : Byte) ∧ (0x80 ||| x.zeroExtend 8 : Byte).getLsbD 7 = true ∧
      (0x80 ||| x.zeroExtend 8 : Byte).extractLsb' 0 3 = x) := by
  revert x; decide

/-! ## Bodies -/

theorem decodeBody_encodeBody (r : Request) : decodeBody r.command (encodeBody r) = some r := by
  cases r with
  | attend on =>
    obtain ⟨hres, hbit⟩ := reserved_of_bit on
    simp only [Request.command, encodeBody, decodeBody, hres, hbit, if_true]
  | create key width readers fresh =>
    obtain ⟨hres, hlow⟩ := reserved_of_low4 readers
    simp only [Request.command, encodeBody, decodeBody, keyBytes, bytes2, List.cons_append, List.nil_append, hres, hlow, if_true,
      ofBytes2_bytes2, ofBytes3_keyBytes]
  | find target => cases target <;> simp [Request.command, encodeBody, decodeBody, keyBytes]
  | scan key mask after count =>
    obtain ⟨⟨hres, hflag, hcount⟩, ⟨hres', hflag', hcount'⟩⟩ := reserved_of_control count
    cases after with
    | none =>
      simp only [Request.command, encodeBody, decodeBody, keyBytes, List.cons_append, List.nil_append, hres, hflag, hcount, ofBytes3_keyBytes,
        and_self, or_true, if_true, Bool.false_eq_true, if_false]
    | some a =>
      simp only [Request.command, encodeBody, decodeBody, keyBytes, List.cons_append, List.nil_append, hres', hflag', hcount', ofBytes3_keyBytes,
        true_or, and_self, if_true]
  | watch filter key mask kinds =>
    obtain ⟨hres, hlow⟩ := reserved_of_low4 kinds
    simp only [Request.command, encodeBody, decodeBody, keyBytes, List.cons_append, List.nil_append, hres, hlow, if_true, ofBytes3_keyBytes]
  | _ => simp [Request.command, encodeBody, decodeBody, bytes2]

theorem decodeBody_sound {c : Command} {body : List Byte} {r : Request} (h : decodeBody c body = some r) :
    r.command = c ∧ encodeBody r = body := by
  unfold decodeBody at h
  split at h
  case h_3 b =>
    obtain ⟨hres, h⟩ := Option.ite_none_right_eq_some.mp h
    cases h
    exact ⟨rfl, by rw [encodeBody, bit_of_reserved hres]⟩
  case h_5 k2 k1 k0 width readers f1 f0 =>
    obtain ⟨hres, h⟩ := Option.ite_none_right_eq_some.mp h
    cases h
    exact ⟨rfl, by rw [encodeBody, keyBytes_ofBytes3, low4_of_reserved hres, bytes2_ofBytes2]; rfl⟩
  case h_9 k2 k1 k0 m2 m1 m0 a2 a1 a0 control =>
    obtain ⟨⟨hres, hafter⟩, h⟩ := Option.ite_none_right_eq_some.mp h
    obtain ⟨hcount, hcount'⟩ := control_of_reserved hres
    cases h
    refine ⟨rfl, ?_⟩
    cases hflag : control.getLsbD 7 with
    | true => simp only [if_true, encodeBody, keyBytes_ofBytes3, hcount' hflag, List.cons_append, List.nil_append]
    | false =>
      obtain ⟨rfl, rfl, rfl⟩ : a2 = 0 ∧ a1 = 0 ∧ a0 = 0 := hafter.resolve_left (by rw [hflag]; nofun)
      simp only [Bool.false_eq_true, if_false, encodeBody, keyBytes_ofBytes3, hcount hflag, List.cons_append, List.nil_append]
  case h_17 f k2 k1 k0 m2 m1 m0 kinds =>
    obtain ⟨hres, h⟩ := Option.ite_none_right_eq_some.mp h
    cases h
    exact ⟨rfl, by rw [encodeBody, keyBytes_ofBytes3, keyBytes_ofBytes3, low4_of_reserved hres]; rfl⟩
  case h_24 => cases h
  all_goals
    cases h
    exact ⟨rfl, by simp [encodeBody]⟩

/-- A body is a command's exactly when it is the body of one of its requests. -/
theorem decodeBody_eq_some_iff {c : Command} {body : List Byte} {r : Request} :
    decodeBody c body = some r ↔ r.command = c ∧ encodeBody r = body :=
  ⟨decodeBody_sound, fun ⟨hc, hb⟩ => hc ▸ hb ▸ decodeBody_encodeBody r⟩

theorem commandOf_eq_some_iff {b : Byte} {c : Command} : commandOf b = some c ↔ commandCode c = b := by
  refine ⟨fun h => by simpa using List.find?_some h, fun h => ?_⟩
  subst h
  cases c <;> rfl

/-- The lengths that a command allows are those of its requests' bodies: for WRITE and PUT, 1 to 16 data bytes (R174, R178). -/
theorem commandAllows_encodeBody (r : Request) : commandAllows r.command (encodeBody r).length = r.wellFormed := by
  cases r with
  | find target => cases target <;> rfl
  | scan key mask after count => cases after <;> rfl
  | write i offset data | put i offset data =>
    show (decide (3 ≤ data.length + 2) && decide (data.length + 2 ≤ 18)) = (decide (1 ≤ data.length) && decide (data.length ≤ 16))
    rw [Bool.eq_iff_iff]
    simp only [Bool.and_eq_true, decide_eq_true_eq]
    omega
  | _ => rfl

theorem encodeBody_length_le {r : Request} (h : r.wellFormed = true) : (encodeBody r).length ≤ Config.maxBody := by
  cases r with
  | find target => cases target <;> exact Nat.le_of_ble_eq_true rfl
  | scan key mask after count => cases after <;> exact Nat.le_of_ble_eq_true rfl
  | write i offset data | put i offset data =>
    have hle : data.length ≤ 16 := of_decide_eq_true (Bool.and_eq_true_iff.mp h).2
    exact (Nat.add_le_add_right hle 2).trans (by decide)
  | _ => exact Nat.le_of_ble_eq_true rfl

/-! ## Frames -/

/-- The request that the bytes CMD, LEN and BODY of a frame spell, if every test of R151 but the last passes. -/
def readRequest (cmd len : Byte) (body : List Byte) : Option Request :=
  if len.toNat > Config.maxBody then none
  else (commandOf cmd).bind fun c => if commandAllows c len.toNat then decodeBody c body else none

/-- A complete frame, whatever follows it, is judged by what its bytes before CHK spell, and then by CHK (R150, R151). -/
theorem checkFrame_eq {cmd tag len chk : Byte} {body extra : List Byte} (h : body.length = len.toNat) :
    checkFrame (cmd :: tag :: len :: body ++ chk :: extra) = (readRequest cmd len body).elim (.badFrame tag) fun r =>
      if crc8 (cmd :: tag :: len :: body) = chk then .good tag r else .checkFail tag := by
  have hdrop : (body ++ chk :: extra).drop len.toNat = chk :: extra := by rw [← h, List.drop_left]
  have htake : (body ++ chk :: extra).take len.toNat = body := by rw [← h, List.take_left]
  simp only [List.cons_append, checkFrame, hdrop, htake, readRequest]
  split
  · rfl
  · cases commandOf cmd with
    | none => rfl
    | some c =>
      dsimp only [Option.bind_some]
      split
      · cases decodeBody c body <;> rfl
      · rfl

/-- The bytes of a frame before CHK spell a request exactly when they are those of that request (R178). -/
theorem readRequest_eq_some_iff {cmd len : Byte} {body : List Byte} (h : body.length = len.toNat) {r : Request} :
    readRequest cmd len body = some r ↔ r.wellFormed = true ∧ cmd = commandCode r.command ∧ body = encodeBody r := by
  unfold readRequest
  rw [← h]
  constructor
  · intro hr
    split at hr
    · cases hr
    · obtain ⟨c, hc, hr⟩ := Option.bind_eq_some_iff.mp hr
      obtain ⟨hallows, hr⟩ := Option.ite_none_right_eq_some.mp hr
      obtain ⟨rfl, rfl⟩ := decodeBody_sound hr
      exact ⟨(commandAllows_encodeBody r).symm.trans hallows, (commandOf_eq_some_iff.mp hc).symm, rfl⟩
  · rintro ⟨hwf, rfl, rfl⟩
    rw [if_neg (Nat.not_lt.mpr (encodeBody_length_le hwf)), commandOf_eq_some_iff.mpr rfl, Option.bind_some,
      if_pos ((commandAllows_encodeBody r).trans hwf), decodeBody_encodeBody]

/-- LEN of a request's frame is the length of its body. -/
theorem encodeBody_len {r : Request} (h : r.wellFormed = true) :
    (encodeBody r).length = (BitVec.ofNat 8 (encodeBody r).length).toNat := by
  have := encodeBody_length_le h
  simp only [Config.maxBody] at this
  rw [BitVec.toNat_ofNat, Nat.mod_eq_of_lt (by omega)]

theorem encodeFrame_eq (tag : Byte) (r : Request) : encodeFrame tag r = coveredBytes tag r ++ [crc8 (coveredBytes tag r)] := rfl

/-- A request's bytes with any check byte: the request if it is the CRC-8 of them, else CHECK_FAIL (R151). -/
theorem checkFrame_coveredBytes (tag : Byte) {r : Request} (h : r.wellFormed = true) (chk : Byte) (extra : List Byte) :
    checkFrame (coveredBytes tag r ++ chk :: extra) = if crc8 (coveredBytes tag r) = chk then .good tag r else .checkFail tag := by
  rw [coveredBytes, checkFrame_eq (encodeBody_len h), (readRequest_eq_some_iff (encodeBody_len h)).mpr ⟨h, rfl, rfl⟩]
  rfl

theorem checkFrame_encodeFrame (tag : Byte) {r : Request} (h : r.wellFormed = true) (extra : List Byte) :
    checkFrame (encodeFrame tag r ++ extra) = .good tag r := by
  rw [encodeFrame_eq, List.append_assoc, List.singleton_append, checkFrame_coveredBytes tag h, if_pos rfl]

/-- The code and body of every request are those of the table of R178. -/
theorem requestLayout_eq (r : Request) : requestLayout r = (commandCode r.command, encodeBody r) := by
  cases r with
  | find target => cases target <;> rfl
  | scan key mask after count =>
    cases after with
    | none => rfl
    | some a =>
      have hcontrol : (0x80 + count.setWidth 8 : Byte) = 0x80 ||| count.zeroExtend 8 := by revert count; decide
      rw [requestLayout, hcontrol]
      rfl
  | attend on => cases on <;> rfl
  | _ => rfl

/-- Settles O6: the bytes are those of the table (`requestLayout_eq`), and are read back by `checkFrame_coveredBytes`. -/
theorem framesRoundTrip : Obligations.FramesRoundTrip := by
  intro tag r extra h
  refine ⟨?_, checkFrame_encodeFrame tag h extra, fun chk hchk => ?_⟩
  · rw [requestLayout_eq]
    rfl
  · rw [checkFrame_coveredBytes tag h, if_neg (Ne.symm hchk)]

/-- Settles O7: bytes that spell a request are that request's own (`readRequest_eq_some_iff`), so other bytes fail a test before CHK's. -/
theorem otherFramesAreBad : Obligations.OtherFramesAreBad := by
  intro cmd tag len chk body extra hlen hother
  have hnone : readRequest cmd len body = none := by
    refine Option.eq_none_iff_forall_ne_some.mpr fun r hr => ?_
    obtain ⟨hwf, rfl, rfl⟩ := (readRequest_eq_some_iff hlen).mp hr
    refine hother r hwf ?_
    rw [coveredBytes, hlen, BitVec.ofNat_toNat, BitVec.setWidth_eq]
  rw [checkFrame_eq hlen, hnone]
  rfl

end Sys2Proof.Machine
end

section
/-! SUPPORT. The port link's events and the frames that leave the directory as it is: select periods, frames that the engine answers itself,
RESEND, requests presented, NOP and STATUS. -/

namespace Sys2Proof.Machine

/-! ## Frames answered by the engine -/

theorem frameLength_of_wellFormed {frame : List Byte} (h : frameWellFormed frame = true) : frameLength frame = frame.length := by
  unfold frameWellFormed at h
  split at h
  · next cmd tag len rest =>
    have hrest : rest.length = len.toNat + 1 := by simpa using h
    simp only [frameLength, List.length_cons, hrest]
  · cases h

theorem encodeFrame_wellFormed (tag : Byte) {r : Request} (h : r.wellFormed = true) : frameWellFormed (encodeFrame tag r) = true := by
  have hlen := encodeBody_len h
  simp only [encodeFrame, frameWellFormed, List.cons_append, List.length_append, List.length_singleton, ← hlen, BEq.rfl]

theorem StandingRec.sound.score_le {isSup : Bool} {r : StandingRec} (h : r.sound isSup) : r.score ≤ scoreCap isSup := by
  obtain ⟨hle, -, -, -, hsup⟩ := h
  cases isSup with
  | false => exact hle
  | true => exact hsup rfl

/-- An outcome that does not raise a sound score leaves it in range (R129, R131). -/
theorem newScore_of_le {isSup : Bool} {r : StandingRec} (hs : r.sound isSup) {st : Status} (h : rescore st r.score ≤ r.score) :
    r.newScore isSup st = rescore st r.score := Nat.min_eq_left (h.trans hs.score_le)

/-- An outcome that carries no points moves no sound record (R129). -/
theorem after_of_unscored {isSup : Bool} {r : StandingRec} (hs : r.sound isSup) {st : Status} (h : rescore st r.score = r.score) :
    r.after isSup st = r := by
  by_cases hf : r.severPending = true ∨ r.standing = .severed ∨ r.standing = .restoring
  · exact after_of_fixed isSup st hf
  · obtain ⟨hp, hsev, hres⟩ : r.severPending = false ∧ r.standing ≠ .severed ∧ r.standing ≠ .restoring := by simpa [not_or] using hf
    rw [after_of_moving st hs hp hsev hres, newScore_of_le hs h.le, h, scored_self hs hp hsev hres]

/-- What a frame that an engine answers itself does, and that it does nothing else (R130, R136, R143, R151, R155). -/
theorem answerFrame_answeredItself {s : State} {p : Port} (h : s.receiving p = true) {frame : List Byte}
    (hf : frameWellFormed frame = true) (a : Answer) (st : Status) : AnsweredItself s (s.answerFrame p frame a st) p frame a st := by
  obtain ⟨hlink, ⟨header, count, hperiod⟩, -, -⟩ := receiving_iff.mp h
  rw [answerFrame_eq, frameLength_of_wellFormed hf]
  set run := runAfter ((s.record p).standing == .restoring) false (s.engine p).restoreCount
  set e : Engine := { s.engine p with link := .sending, answer := some a, received := frame.length, assembled := (frame.dropLast).take 27
                                      restoreCount := run } with he
  have hsent : { ({ s.engine p with received := frame.length, assembled := keptBytes (frame.take (frame.length - 1)) } : Engine).send a with
      restoreCount := run } = e := by
    simp only [Engine.send, hperiod, he, keptBytes, List.dropLast_eq_take, Config.maxBody]
  rw [hsent]
  obtain ⟨hengine, hrec, hothers, hreq, hlast⟩ := settleOutcome_spec (s.setEngine p e) p st
  obtain ⟨hdir, hnotices, htimer, hsupply, hgrant, hpending⟩ := settleOutcome_keeps (s.setEngine p e) p st
  refine ⟨?_, hrec, fun q hq => ?_, ⟨hdir, hnotices, htimer⟩, hgrant, hsupply, hpending, hlast, hreq⟩
  · rw [hengine, setEngine_engine, if_pos rfl]
    simp only [Engine.silence, Engine.blankPeriod, he, hperiod, reduceCtorEq, if_false]
    rfl
  · rw [(hothers q hq).1, (hothers q hq).2, setEngine_engine, if_neg (Ne.symm hq)]
    exact ⟨rfl, rfl⟩

theorem AnsweredItself.unscored {s t : State} {p : Port} {frame : List Byte} {a : Answer} {st : Status}
    (h : AnsweredItself s t p frame a st) (hs : (s.record p).sound (p == s.supervisor)) (hst : rescore st (s.record p).score = (s.record p).score) :
    t.record p = s.record p := by
  obtain ⟨-, hrec, -⟩ := h
  exact hrec.trans (after_of_unscored hs hst)

theorem AnsweredItself.hold {s t : State} {p : Port} {frame : List Byte} {a : Answer} {st : Status}
    (h : AnsweredItself s t p frame a st) : (t.engine p).hold = (s.engine p).hold := by
  obtain ⟨he, -⟩ := h
  rw [he]
  split <;> rfl

theorem checkFrame_encodeFrame_alone (tag : Byte) {r : Request} (h : r.wellFormed = true) :
    checkFrame (encodeFrame tag r) = .good tag r := by
  simpa using checkFrame_encodeFrame tag h []

/-- Settles O11: the verdict on the frame selects the command's branch, and `answerFrame_answeredItself` says what it does. -/
theorem framesAnsweredByTheEngine : Obligations.FramesAnsweredByTheEngine := by
  intro s p tag h
  refine ⟨fun frame hf hbad => ?_, fun frame hf hfail => ?_, fun r hr hrun => ?_⟩
  · refine ⟨_, ?_, answerFrame_answeredItself h hf _ _⟩
    simp [exec, execBadFrame, hbad, h]
  · refine ⟨_, ?_, answerFrame_answeredItself h hf _ _⟩
    simp [exec, execCheckFail, hfail, h]
  · have hanswered := answerFrame_answeredItself h (encodeFrame_wellFormed tag hr) { tag := tag, status := .held, body := [], atCheck := true } .held
    refine ⟨_, ?_, fun hs => hanswered.unscored hs rfl, hanswered⟩
    simp [exec, execHeld, checkFrame_encodeFrame_alone tag hr, h, hrun]

/-- Settles O12: the answer is `resendAnswer`, whose three cases are the statement's, given by the engine itself (`answerFrame_answeredItself`). -/
theorem resendAnswers : Obligations.ResendAnswers := by
  intro s p tag named h hrun
  have hwf : (Request.resend named).wellFormed = true := rfl
  have hanswered := answerFrame_answeredItself h (encodeFrame_wellFormed tag hwf) (resendAnswer (s.engine p).hold tag named) .noHeld
  refine ⟨_, resendAnswer (s.engine p).hold tag named, ?_, fun x hx htag => ?_, fun x hx htag => ?_, fun hx => ?_,
    fun hs => hanswered.unscored hs rfl, hanswered.hold, hanswered⟩
  · simp [exec, execResend, checkFrame_encodeFrame_alone tag hwf, h, hrun]
  · simp [resendAnswer, hx, htag]
  · simp [resendAnswer, hx, htag]
  · simp [resendAnswer, hx]

/-- The bytes kept of a request's frame are those before its check byte: no body is longer than 24 bytes (R150, R174). -/
theorem keptBytes_encodeFrame (tag : Byte) {r : Request} (h : r.wellFormed = true) :
    keptBytes ((encodeFrame tag r).take ((encodeFrame tag r).length - 1)) = coveredBytes tag r := by
  have hle := encodeBody_length_le h
  rw [encodeFrame_eq, ← List.dropLast_eq_take, List.dropLast_concat, keptBytes, List.take_of_length_le]
  exact Nat.add_le_add_right hle 3

/-- Settles O13: the frame's verdict is its request, and the two writes of p's engine are one. -/
theorem requestsPresented : Obligations.RequestsPresented := by
  intro s p tag r hr hother h hrun
  have hcmd : r.command ≠ .resend := by
    cases r with
    | resend named => exact (hother named rfl).elim
    | _ => exact nofun
  have hexec : exec (.requestPresented p (encodeFrame tag r)) s = .next ((s.acceptBytes p (encodeFrame tag r)).setEngine p
      { (s.acceptBytes p (encodeFrame tag r)).engine p with link := .inFlight, request := some { tag := tag, request := r } }) := by
    simp [exec, execRequestPresented, checkFrame_encodeFrame_alone tag hr, h, hrun, hcmd]
  rw [hexec, State.acceptBytes, setEngine_setEngine, setEngine_engine, if_pos rfl,
    frameLength_of_wellFormed (encodeFrame_wellFormed tag hr), keptBytes_encodeFrame tag hr]

/-! ## NOP and STATUS -/

/-- Settles O16: NOP's operation is none, so the grant leaves the answer alone; the score by `after_of_moving`, the run by R143. -/
theorem nopTaken : Obligations.NopTaken := by
  intro s p tag ht
  obtain ⟨t, hexec, hanswered, hkept⟩ := grantPort_answered nopOp ht (u := s.setGrant (.port p)) rfl (fun _ => rfl) rfl rfl rfl rfl
  obtain ⟨hengine, hrec, -⟩ := id hanswered
  refine ⟨t, hexec, hanswered, hkept, fun hs hmute hres => ?_, fun hres hcount => ?_⟩
  · obtain ⟨hpend, hsev⟩ : (s.record p).severPending = false ∧ (s.record p).standing ≠ .severed := by simpa [State.mute] using hmute
    have hle : rescore .ok (s.record p).score ≤ (s.record p).score := Nat.sub_le ..
    rw [hrec]
    show ((s.record p).after (p == s.supervisor) .ok).score = _
    rw [after_of_moving .ok hs hpend hsev hres]
    exact newScore_of_le hs hle
  · rw [hengine, hres]
    exact (if_neg (by simpa using hcount.ne)).trans (if_pos rfl)

/-- Settles O17: STATUS's operation reads the state before the answer is scored; the grant is taken in RUNNING. -/
theorem statusTaken : Obligations.StatusTaken := by
  intro s p tag ht
  obtain ⟨t, hexec, hanswered, hkept⟩ :=
    grantPort_answered (statusOp p) ht (u := s.setGrant (.port p)) rfl (fun _ => rfl) rfl rfl rfl rfl
  refine ⟨t, _, _, hexec, rfl, rfl, ?_, hkept⟩
  have hrun : s.supply.state.code = 0x02 := by rw [running_of_nextGrant ht.2]; rfl
  have htick : bytes2 (s.timer.tick.extractLsb' 0 16) = [s.timer.tick.extractLsb' 8 8, s.timer.tick.extractLsb' 0 8] := by
    unfold bytes2
    simp
  have hbody : statusBody p (s.setGrant (.port p)) = _ :=
    congrArg₂ (fun tick supply => _ ++ natBytes2 s.freeSlots ++ natBytes2 s.dir.freeGranules ++ tick ++ [supply]) htick hrun
  exact (congrArg (Answered s t p tag .status .ok) hbody).mp hanswered

/-! ## Select periods -/

/-- The fields of the port status byte do not overlap, and bit 7 is 0 (R176, R177). -/
theorem statusFields (st : Standing) (sup : SupplyState) (waiting : Bool) :
    (st.code <<< 4 ||| sup.code <<< 2 ||| bit waiting).toNat = 16 * st.code.toNat + 4 * sup.code.toNat + (if waiting then 1 else 0) ∧
    (st.code <<< 4 ||| sup.code <<< 2 ||| bit waiting) ≠ 0xFF := by
  cases st <;> cases sup <;> cases waiting <;> decide

theorem statusByte_spec (s : State) (p : Port) :
    (s.statusByte p).toNat =
      16 * (s.record p).standing.code.toNat + 4 * s.supply.state.code.toNat + (if s.queue p = [] then 0 else 1) ∧
    s.statusByte p ≠ 0xFF := by
  obtain ⟨hfields, hne⟩ := statusFields (s.record p).standing s.supply.state (!(s.queue p).isEmpty)
  refine ⟨hfields.trans ?_, hne⟩
  cases s.queue p <;> rfl

section
variable {e : Engine} (wait : Nat)

theorem sdoByte_high (h : e.period = .high) (n : Nat) : e.sdoByte wait n = none := by
  rw [Engine.sdoByte, h]

theorem sdoByte_blank (h : e.period = .blank) (n : Nat) : e.sdoByte wait n = some 0xFF := by
  rw [Engine.sdoByte, h]

variable {header count : Byte} (h : e.period = .active header count)
include h

theorem sdoByte_header : e.sdoByte wait 1 = some header ∧ e.sdoByte wait 2 = some count := by
  unfold Engine.sdoByte
  rw [h]
  exact ⟨rfl, rfl⟩

theorem sdoByte_unanswered (ha : e.answer = none) {n : Nat} (hn : 3 ≤ n) : e.sdoByte wait n = some 0xFF := by
  unfold Engine.sdoByte
  simp only [h, ha]
  rw [if_neg (by omega), if_neg (by omega)]

theorem sdoByte_answered {a : Answer} (ha : e.answer = some a) {n : Nat} (hn : 3 ≤ n) :
    e.sdoByte wait n = if n < e.markerByte a wait then some 0xFF else some ((a.bytes[n - e.markerByte a wait]?).getD 0xFF) := by
  unfold Engine.sdoByte
  simp only [h, ha]
  rw [if_neg (by omega), if_neg (by omega)]

/-- From its marker on, an answer's bytes, with FFh before and after them (R153). -/
theorem sdoByte_answer {a : Answer} (ha : e.answer = some a) (hstart : 3 ≤ e.markerByte a wait) :
    (∀ n, 3 ≤ n → n < e.markerByte a wait → e.sdoByte wait n = some 0xFF) ∧
    (∀ k, k < a.bytes.length → e.sdoByte wait (e.markerByte a wait + k) = a.bytes[k]?) ∧
    ∀ n, e.markerByte a wait + a.bytes.length ≤ n → e.sdoByte wait n = some 0xFF := by
  refine ⟨fun n hn hlt => ?_, fun k hk => ?_, fun n hn => ?_⟩
  · rw [sdoByte_answered wait h ha hn, if_pos hlt]
  · rw [sdoByte_answered wait h ha (by omega), if_neg (by omega), Nat.add_sub_cancel_left, List.getElem?_eq_getElem hk]
    rfl
  · rw [sdoByte_answered wait h ha (by omega), if_neg (by omega), List.getElem?_eq_none (by omega)]
    rfl

end

theorem queue_byte {s : State} (h : QueuesSound s) (p : Port) : (BitVec.ofNat 8 (s.queue p).length).toNat = (s.queue p).length := by
  obtain ⟨hle, -⟩ := h p
  simp only [Config.queueDepth] at hle
  rw [BitVec.toNat_ofNat, Nat.mod_eq_of_lt (by omega)]

theorem LinkSound.inFlight_iff {s : State} (hs : LinkSound s) (p : Port) : (s.engine p).link = .inFlight ↔ (s.engine p).request.isSome := by
  obtain ⟨hflight, -⟩ := hs.engine p
  exact hflight

/-- Settles O10: what is shifted out by the `sdoByte` lemmas, the header by `statusByte_spec`, and each edge of SEL by the case of its command. -/
theorem selectPeriods : Obligations.SelectPeriods := by
  refine ⟨fun e wait => ⟨sdoByte_high wait, sdoByte_blank wait, fun header count h => ?_⟩,
    fun s p hs => ⟨fun hhigh hc => ?_, fun hhigh hc => ?_, fun hlow => ?_⟩⟩
  · obtain ⟨hfirst, hsecond⟩ := sdoByte_header wait h
    refine ⟨hfirst, hsecond, fun ha n => sdoByte_unanswered wait h ha, fun a start ha hstart hle => ?_⟩
    subst hstart
    exact sdoByte_answer wait h ha hle
  · rw [← hs.inFlight_iff] at hc
    simp only [exec, execSelectPeriodStart, hhigh]
    rw [if_pos hc]
  · obtain ⟨hz, hmute, hnone⟩ := hc
    have hidle : (s.engine p).link ≠ .inFlight := fun hl => by rw [hs.inFlight_iff, hnone] at hl; cases hl
    obtain ⟨hheader, hne⟩ := statusByte_spec s p
    refine ⟨s.statusByte p, BitVec.ofNat 8 (s.queue p).length, ?_, hheader, fun hq => queue_byte hq p, hne⟩
    simp only [exec, execSelectPeriodStart, hhigh]
    rw [if_neg (by simp [hz, hmute, hidle])]
  · show execSelectPeriodEnd p s = _
    unfold execSelectPeriodEnd
    dsimp only
    split
    · next hhigh => exact (hlow hhigh).elim
    · simp only [hs.inFlight_iff]

end Sys2Proof.Machine
end

section
/-! SUPPORT. The events of the supply watch: what each entry to RESET leaves in every block, how the part returns to RUNNING, and what a freeze
withdraws. -/

namespace Sys2Proof.Machine

theorem droopDetected_iff {s : State} : s.droopDetected = true ↔ s.supply.state = .running ∨ s.supply.state = .settling := by
  simp [State.droopDetected]

/-! ## Entries to RESET (R164) -/

theorem reset_filters (p : Port) (f : FilterNo) : (State.reset.filters p).get f = Filter.unused := by
  unfold State.filters State.reset
  rw [vector_get_replicate]
  exact vector_get_replicate ..

theorem enterReset_engine (s : State) (p : Port) : s.enterReset.engine p = (s.engine p).intoReset := Vector.get_map ..

/-- An engine on entry to RESET keeps of its select period only whether SEL is high (R148, R164). -/
theorem intoReset_eq (e : Engine) :
    e.intoReset = { Engine.reset with period := if e.period = .high then .high else .blank } := by
  unfold Engine.intoReset
  cases e.period <;> rfl

/-- The attention line is released where the queue is empty (R87). -/
theorem attentionLine_of_empty {s : State} {p : Port} (h : s.queue p = []) : s.attentionLine p = false := by
  simp [State.attentionLine, h]

/-- A reset of any cause is one entry to RESET; the causes differ only in what the supply watch holds of the supply and of RESET_N. -/
theorem exec_of_reset {s : State} {c : Instr}
    (h : c = .powerOnReset ∨ c = .pinReset ∨
      (c = .supplyReset ∧ (s.supply.state = .running ∨ s.supply.state = .settling) ∧ s.supply.swm = .reset)) :
    ∃ valid pin droop low high, exec c s = .next (s.enterReset.setSupply
      { s.enterReset.supply with vddValid := valid, resetN := pin, resetDroop := droop, lowTime := low, highTime := high }) := by
  obtain rfl | rfl | ⟨rfl, hstate, hswm⟩ := h
  · exact ⟨false, _, false, 0, 0, rfl⟩
  · exact ⟨_, false, _, _, _, rfl⟩
  · exact ⟨_, _, true, Config.droopTime, 0, if_pos ⟨droopDetected_iff.mpr hstate, hswm⟩⟩

/-- Settles O45: every cause enters RESET alike (`exec_of_reset`), where each block but the engines and the supply watch is that of
`State.reset`. -/
theorem resetEntered : Obligations.ResetEntered := by
  intro s c hc
  obtain ⟨valid, pin, droop, low, high, hexec⟩ := exec_of_reset hc
  refine ⟨_, hexec, rfl, rfl, rfl, rfl, rfl, strapPort_val _, rfl, reset_point, rfl, rfl, rfl, rfl, rfl, rfl, fun p => ?_⟩
  have hengine := (enterReset_engine s p).trans (intoReset_eq _)
  exact ⟨reset_openUpdates p, reset_queue p, reset_filters p, reset_record p, attentionLine_of_empty (reset_queue p), hengine⟩

/-! ## Release, settling and recovery (R165, R166, R170) -/

/-- Settles O46: each command in the supply state it starts from writes the supply watch and nothing else. -/
theorem supplyReturns : Obligations.SupplyReturns := by
  intro s sup swm
  refine ⟨fun hreset => ?_, fun hsettling => if_pos hsettling, fun hfrozen => ?_⟩
  · exact ⟨_, if_pos hreset, rfl, rfl, strapPort_val sup, rfl, rfl, rfl, rfl⟩
  · exact ⟨_, if_pos hfrozen, rfl, rfl, rfl, rfl, rfl⟩

/-! ## A freeze (R169) -/

theorem withdrawn_of_none {e : Engine} (h : e.request = none) (mute restoring : Bool) : e.withdrawn mute restoring = e := by
  unfold Engine.withdrawn
  rw [h]

/-- A withdrawn request leaves its engine as an answered one does, with the answer HELD, and breaks the port's run; the hold takes nothing
(R158, R169). -/
theorem withdrawn_of_some {e : Engine} {pr : PortRequest} (h : e.request = some pr) (mute restoring : Bool) :
    e.withdrawn mute restoring =
      { e.leaves mute { tag := pr.tag, status := .held, body := [], atCheck := false } with
        restoreCount := runAfter restoring false e.restoreCount } := by
  unfold Engine.withdrawn
  rw [h]
  cases mute <;> cases hp : e.period <;>
    simp [Engine.leaves, Engine.send, Engine.silence, Engine.blankPeriod, Period.isActive, hp]

/-- A port's engine after withdrawals is its own withdrawal alone: no other port's moves its engine, record or muteness. -/
theorem withdraws_engine {l : List Port} (hl : l.Nodup) (s : State) (q : Port) :
    (l.foldl State.withdraw s).engine q =
      if q ∈ l then (s.engine q).withdrawn (s.mute q) ((s.record q).standing == .restoring) else s.engine q := by
  induction l generalizing s with
  | nil => rfl
  | cons p l ih =>
    obtain ⟨hp, hl⟩ := List.nodup_cons.mp hl
    rw [List.foldl_cons, ih hl, withdraw_eq_setEngine]
    by_cases hpq : p = q
    · subst hpq; simp [hp]
    · simp [hpq, Ne.symm hpq]

/-- Withdrawals move the engines and nothing else. -/
theorem withdraws_eq (s : State) :
    allPorts.foldl State.withdraw s = { s with engines := (allPorts.foldl State.withdraw s).engines } := by
  have hrest := withdraws_keep (fun t => { t with engines := s.engines }) (fun _ _ _ => rfl) s
  exact congrArg (fun t : State => { t with engines := (allPorts.foldl State.withdraw s).engines }) hrest

/-- What a droop under FREEZE does: the supply watch, the engines and the standing unit's presented request move, and nothing else. -/
theorem execDroopFreeze_spec {s : State} (hstate : s.supply.state = .running ∨ s.supply.state = .settling)
    (hswm : s.supply.swm = .freeze) :
    ∃ t, execDroopFreeze s = .next t ∧
      (∃ es request, t =
        { s with
          supply := { s.supply with state := .frozen, settleTime := 0, lowTime := Config.droopTime, highTime := 0 }
          engines := es
          standing := { s.standing with request := request } }) ∧
      t.standing.request = s.standing.request.or t.heldRequest ∧
      ∀ p, t.engine p = (s.engine p).withdrawn (s.mute p) ((s.record p).standing == .restoring) := by
  refine ⟨_, if_pos ⟨droopDetected_iff.mpr hstate, hswm⟩, ?_, ?_, fun p => ?_⟩
  · rw [withdraws_eq, presentHeld_eq]
    exact ⟨_, _, rfl⟩
  · rw [presentHeld_request, withdraws_keep (fun s => s.standing.request) fun _ _ _ => rfl]
    rfl
  · rw [presentHeld_engine, withdraws_engine allPorts_nodup, if_pos (mem_allPorts p)]
    rfl

/-- Settles O47: what moves is said by `execDroopFreeze_spec`, and each engine by whether it had a request to withdraw. -/
theorem freezeWithdraws : Obligations.FreezeWithdraws := by
  intro s hstate hswm
  obtain ⟨_, hexec, ⟨es, request, rfl⟩, hrequest, hengine⟩ := execDroopFreeze_spec hstate hswm
  exact ⟨_, hexec, rfl, rfl, rfl, rfl, ⟨rfl, rfl, rfl⟩, rfl, rfl, rfl, rfl, hrequest,
    fun p hnone => (hengine p).trans (withdrawn_of_none hnone ..), fun p pr hsome => (hengine p).trans (withdrawn_of_some hsome ..)⟩

end Sys2Proof.Machine
end

section
/-! SUPPORT. The check byte as the register of R173, and notice records (R182): laid out by the table, and read back. -/

namespace Sys2Proof.Machine

/-! ## The check byte (R173) and the codes (R177, R180) -/

/-- One shift of the register, by its outgoing bit 7 (R173). -/
theorem crcShift_eq (r : Byte) : crcShift r = if r.getLsbD 7 then (r <<< 1) ^^^ 0x07 else r <<< 1 := by
  rw [crcShift, BitVec.msb_eq_getLsbD_last]

theorem crcByte_eq_foldl (r b : Byte) : crcByte r b =
    (List.range 8).foldl (fun r _ => if r.getLsbD 7 then (r <<< 1) ^^^ 0x07 else r <<< 1) (r ^^^ b) := by
  simp only [← crcShift_eq]
  rfl

theorem crc8_concat (bs : List Byte) (b : Byte) : crc8 (bs ++ [b]) = crcByte (crc8 bs) b := List.foldl_concat ..

/-- Settles O8: a byte's part in the register is `crcByte_eq_foldl`, a request's check byte `encodeFrame_eq`; the rest are the model's tables. -/
theorem checkByteAndCodes : Obligations.CheckByteAndCodes :=
  ⟨rfl, fun bs b => (crc8_concat bs b).trans (crcByte_eq_foldl ..), by decide +kernel, encodeFrame_eq, fun _ => rfl, rfl, rfl, rfl, rfl, rfl⟩

/-! ## Notice records (R182) -/

/-- The flag bit and the filter number share no bit, so that the byte is their sum (R182). -/
theorem noticeByte_eq (f : FilterNo) (o : Bool) : noticeByte f.val o = recordByte f.val o := by
  revert f o; decide

theorem encode_eq_layout (a : Notice) : a.encode = a.layout := by
  cases a with
  | changed i key v f o | stale i key v f o | retired i key v f o =>
    rw [Notice.encode, noticeByte_eq]
    rfl
  | owner i key w f o =>
    cases w <;> simp only [Notice.encode, noticeByte_eq] <;> rfl
  | refresh i key o | expired i key o | standing p st o => cases o <;> rfl
  | gap => rfl

theorem encode_length (a : Notice) : a.encode.length = 8 := by cases a <;> rfl

theorem encode_head? (a : Notice) : a.encode.head? = some (BitVec.ofNat 8 a.kindNo) := by cases a <;> rfl

/-- The filter number in bits 2 to 0 of byte 1 of a record (R182). -/
def recordFilter (flags : Byte) : FilterNo := ⟨flags.toNat % 8, Nat.mod_lt _ (by decide)⟩

/-- The standing a code stands for (R177). -/
def standingOf (code : Byte) : Option Standing :=
  [Standing.good, .warned, .restricted, .restoring, .severed].find? (·.code == code)

/-- The notice whose record the bytes are: the table of R182 read from the record to the notice. The inverse of `Notice.encode`
(`ofRecord_encode`). -/
def Notice.ofRecord : List Byte → Option Notice
  | [kind, flags, subject, k2, k1, k0, b6, b7] =>
    match kind.toNat with
    | 1 => some (.changed (byteSlot subject) (ofBytes3 k2 k1 k0) (ofBytes2 b6 b7) (recordFilter flags) flags.msb)
    | 2 => some (.stale (byteSlot subject) (ofBytes3 k2 k1 k0) (ofBytes2 b6 b7) (recordFilter flags) flags.msb)
    | 3 => some (.retired (byteSlot subject) (ofBytes3 k2 k1 k0) (ofBytes2 b6 b7) (recordFilter flags) flags.msb)
    | 4 => some (.owner (byteSlot subject) (ofBytes3 k2 k1 k0) (portOf b6) (recordFilter flags) flags.msb)
    | 5 => some (.refresh (byteSlot subject) (ofBytes3 k2 k1 k0) flags.msb)
    | 6 => some (.expired (byteSlot subject) (ofBytes3 k2 k1 k0) flags.msb)
    | 7 => (portOf subject).bind fun p => (standingOf k2).map fun st => .standing p st flags.msb
    | 8 => some .gap
    | _ => none
  | _ => none

@[simp] theorem recordFilter_noticeByte (f : FilterNo) (o : Bool) : recordFilter (noticeByte f.val o) = f := by
  revert f o; decide

@[simp] theorem noticeByte_overrun (f : FilterNo) (o : Bool) : (noticeByte f.val o).msb = o := by
  revert f o; decide

@[simp] theorem noticeByte_zero_overrun (o : Bool) : (noticeByte 0 o).msb = o := noticeByte_overrun 0 o

/-- FFh, the owner byte of a point without an owner, is the code of no port (R177, R182). -/
@[simp] theorem portOf_ff : portOf 0xFF#8 = none := rfl

@[simp] theorem standingOf_code (st : Standing) : standingOf st.code = some st := by cases st <;> rfl

/-- A record tells every field of its notice. -/
theorem ofRecord_encode (a : Notice) : Notice.ofRecord a.encode = some a := by
  cases a with
  | owner i key w f o => cases w <;> simp [Notice.encode, Notice.ofRecord, keyBytes, portOf_portByte]
  | standing p st o => simp [Notice.encode, Notice.ofRecord, portOf_portByte]
  | _ => simp [Notice.encode, Notice.ofRecord, keyBytes, bytes2]

theorem encode_injective {a b : Notice} (h : a.encode = b.encode) : a = b :=
  Option.some.inj <| calc
    some a = Notice.ofRecord a.encode := (ofRecord_encode a).symm
    _ = Notice.ofRecord b.encode := congrArg _ h
    _ = some b := ofRecord_encode b

/-- Settles O9: the bytes are those of the table (`encode_eq_layout`), from which `Notice.ofRecord` reads the notice back. -/
theorem noticeRecords : Obligations.NoticeRecords := fun a _ =>
  ⟨encode_eq_layout a, encode_length a, encode_head? a, encode_injective⟩

end Sys2Proof.Machine
end
